-- ==== Sys2Proof/Word.lean ====
section
/-! DEFINITION. The word types of the bus interface (spec 30_encoding.md R45, R46). -/

namespace Sys2Proof

/-- The 32-bit data word of a transaction (`wdata`, `rdata`): 20_memory.md R33, R35. -/
abbrev Word := BitVec 32

/-- An 8-bit byte offset into the register window: 20_memory.md R31. -/
abbrev Offset := BitVec 8

/-- The 41-bit transaction word: 30_encoding.md R45. -/
abbrev TransactionWord := BitVec 41

end Sys2Proof
end

