-- ==== Sys2Proof/Syntax.lean ====
section
/-! DEFINITION. The transactions of the block, one constructor per row of spec/opcode_table.json
(30_encoding.md R49). Every row keeps all the bits the transaction word gives it: the data word of a
read or of a bus-error row is carried although no rule looks at it (R47). -/

namespace Sys2Proof

/-- The direction bit `W` of a transaction word: 1 = write, 0 = read (30_encoding.md R45). -/
inductive Dir where
  | read
  | write
deriving DecidableEq, Repr

/-- The 11 named registers of the register map, 10_state.md R25. -/
inductive Reg where
  | freqCmd | pctCmd | period | duty | dutyHi | dutyLo | status
  | cfgOsc | cfgPrescale | cfgRes | cfgFscale
deriving DecidableEq, Repr

/-- The instructions of the block: its bus transactions (30_encoding.md R45, R49). -/
inductive Instr where
  /-- `WR FREQ_CMD, F`, R60. -/
  | wrFreqCmd (f : Word)
  /-- `WR PCT_CMD, pct`, R63. -/
  | wrPctCmd (pct : Word)
  /-- `RD FREQ_CMD`, R71. -/
  | rdFreqCmd (data : Word)
  /-- `RD PCT_CMD`, R72. -/
  | rdPctCmd (data : Word)
  /-- `RD PERIOD`, R73. -/
  | rdPeriod (data : Word)
  /-- `RD DUTY`, R74. -/
  | rdDuty (data : Word)
  /-- `RD DUTY_HI`, R75. -/
  | rdDutyHi (data : Word)
  /-- `RD DUTY_LO`, R76. -/
  | rdDutyLo (data : Word)
  /-- `RD STATUS`, R77. -/
  | rdStatus (data : Word)
  /-- `RD CFG_OSC`, R78. -/
  | rdCfgOsc (data : Word)
  /-- `RD CFG_PRESCALE`, R79. -/
  | rdCfgPrescale (data : Word)
  /-- `RD CFG_RES`, R80. -/
  | rdCfgRes (data : Word)
  /-- `RD CFG_FSCALE`, R81. -/
  | rdCfgFscale (data : Word)
  /-- `WR PERIOD, v (read-only: bus error)`, R84. -/
  | wrPeriod (data : Word)
  /-- `WR DUTY, v (read-only: bus error)`, R84. -/
  | wrDuty (data : Word)
  /-- `WR DUTY_HI, v (read-only: bus error)`, R84. -/
  | wrDutyHi (data : Word)
  /-- `WR DUTY_LO, v (read-only: bus error)`, R84. -/
  | wrDutyLo (data : Word)
  /-- `WR STATUS, v (read-only: bus error)`, R84. -/
  | wrStatus (data : Word)
  /-- `WR CFG_OSC, v (read-only: bus error)`, R84. -/
  | wrCfgOsc (data : Word)
  /-- `WR CFG_PRESCALE, v (read-only: bus error)`, R84. -/
  | wrCfgPrescale (data : Word)
  /-- `WR CFG_RES, v (read-only: bus error)`, R84. -/
  | wrCfgRes (data : Word)
  /-- `WR CFG_FSCALE, v (read-only: bus error)`, R84. -/
  | wrCfgFscale (data : Word)
  /-- `misaligned access, OFF[1:0] = 01 (bus error)`, R86. Either direction. -/
  | misaligned01 (w : Dir) (off : Offset) (data : Word)
  /-- `misaligned access, OFF[1:0] = 10 (bus error)`, R86. Either direction. -/
  | misaligned10 (w : Dir) (off : Offset) (data : Word)
  /-- `misaligned access, OFF[1:0] = 11 (bus error)`, R86. Either direction. -/
  | misaligned11 (w : Dir) (off : Offset) (data : Word)
  /-- `reserved offset, OFF = 00101100 (bus error)`, R85. Either direction. -/
  | reserved00101100 (w : Dir) (off : Offset) (data : Word)
  /-- `reserved offset, OFF = 0011xx00 (bus error)`, R85. Either direction. -/
  | reserved0011xx00 (w : Dir) (off : Offset) (data : Word)
  /-- `reserved offset, OFF = 01xxxx00 (bus error)`, R85. Either direction. -/
  | reserved01xxxx00 (w : Dir) (off : Offset) (data : Word)
  /-- `reserved offset, OFF = 1xxxxx00 (bus error)`, R85. Either direction. -/
  | reserved1xxxxx00 (w : Dir) (off : Offset) (data : Word)
deriving DecidableEq, Repr

/-- The mnemonic of the instruction's row in spec/opcode_table.json. -/
def Instr.mnemonic : Instr → String
  | .wrFreqCmd _ => "WR_FREQ_CMD__F"
  | .wrPctCmd _ => "WR_PCT_CMD__pct"
  | .rdFreqCmd _ => "RD_FREQ_CMD"
  | .rdPctCmd _ => "RD_PCT_CMD"
  | .rdPeriod _ => "RD_PERIOD"
  | .rdDuty _ => "RD_DUTY"
  | .rdDutyHi _ => "RD_DUTY_HI"
  | .rdDutyLo _ => "RD_DUTY_LO"
  | .rdStatus _ => "RD_STATUS"
  | .rdCfgOsc _ => "RD_CFG_OSC"
  | .rdCfgPrescale _ => "RD_CFG_PRESCALE"
  | .rdCfgRes _ => "RD_CFG_RES"
  | .rdCfgFscale _ => "RD_CFG_FSCALE"
  | .wrPeriod _ => "WR_PERIOD__v__read-only__bus_error"
  | .wrDuty _ => "WR_DUTY__v__read-only__bus_error"
  | .wrDutyHi _ => "WR_DUTY_HI__v__read-only__bus_error"
  | .wrDutyLo _ => "WR_DUTY_LO__v__read-only__bus_error"
  | .wrStatus _ => "WR_STATUS__v__read-only__bus_error"
  | .wrCfgOsc _ => "WR_CFG_OSC__v__read-only__bus_error"
  | .wrCfgPrescale _ => "WR_CFG_PRESCALE__v__read-only__bus_error"
  | .wrCfgRes _ => "WR_CFG_RES__v__read-only__bus_error"
  | .wrCfgFscale _ => "WR_CFG_FSCALE__v__read-only__bus_error"
  | .misaligned01 _ _ _ => "misaligned_access__OFF_1_0____01__bus_error"
  | .misaligned10 _ _ _ => "misaligned_access__OFF_1_0____10__bus_error"
  | .misaligned11 _ _ _ => "misaligned_access__OFF_1_0____11__bus_error"
  | .reserved00101100 _ _ _ => "reserved_offset__OFF___00101100__bus_error"
  | .reserved0011xx00 _ _ _ => "reserved_offset__OFF___0011xx00__bus_error"
  | .reserved01xxxx00 _ _ _ => "reserved_offset__OFF___01xxxx00__bus_error"
  | .reserved1xxxxx00 _ _ _ => "reserved_offset__OFF___1xxxxx00__bus_error"

/-- The class column of the opcode table (30_encoding.md R49). -/
inductive InstrClass where
  | command
  | read
  | busError
deriving DecidableEq, Repr

/-- The class of an instruction (30_encoding.md R49). -/
def Instr.cls : Instr → InstrClass
  | .wrFreqCmd _ => .command
  | .wrPctCmd _ => .command
  | .rdFreqCmd _ => .read
  | .rdPctCmd _ => .read
  | .rdPeriod _ => .read
  | .rdDuty _ => .read
  | .rdDutyHi _ => .read
  | .rdDutyLo _ => .read
  | .rdStatus _ => .read
  | .rdCfgOsc _ => .read
  | .rdCfgPrescale _ => .read
  | .rdCfgRes _ => .read
  | .rdCfgFscale _ => .read
  | .wrPeriod _ => .busError
  | .wrDuty _ => .busError
  | .wrDutyHi _ => .busError
  | .wrDutyLo _ => .busError
  | .wrStatus _ => .busError
  | .wrCfgOsc _ => .busError
  | .wrCfgPrescale _ => .busError
  | .wrCfgRes _ => .busError
  | .wrCfgFscale _ => .busError
  | .misaligned01 _ _ _ => .busError
  | .misaligned10 _ _ _ => .busError
  | .misaligned11 _ _ _ => .busError
  | .reserved00101100 _ _ _ => .busError
  | .reserved0011xx00 _ _ _ => .busError
  | .reserved01xxxx00 _ _ _ => .busError
  | .reserved1xxxxx00 _ _ _ => .busError

/-- The register a read instruction reads (41_reads.md R71 to R81). -/
def Instr.readTarget : Instr → Option Reg
  | .wrFreqCmd _ => none
  | .wrPctCmd _ => none
  | .rdFreqCmd _ => some .freqCmd
  | .rdPctCmd _ => some .pctCmd
  | .rdPeriod _ => some .period
  | .rdDuty _ => some .duty
  | .rdDutyHi _ => some .dutyHi
  | .rdDutyLo _ => some .dutyLo
  | .rdStatus _ => some .status
  | .rdCfgOsc _ => some .cfgOsc
  | .rdCfgPrescale _ => some .cfgPrescale
  | .rdCfgRes _ => some .cfgRes
  | .rdCfgFscale _ => some .cfgFscale
  | .wrPeriod _ => none
  | .wrDuty _ => none
  | .wrDutyHi _ => none
  | .wrDutyLo _ => none
  | .wrStatus _ => none
  | .wrCfgOsc _ => none
  | .wrCfgPrescale _ => none
  | .wrCfgRes _ => none
  | .wrCfgFscale _ => none
  | .misaligned01 _ _ _ => none
  | .misaligned10 _ _ _ => none
  | .misaligned11 _ _ _ => none
  | .reserved00101100 _ _ _ => none
  | .reserved0011xx00 _ _ _ => none
  | .reserved01xxxx00 _ _ _ => none
  | .reserved1xxxxx00 _ _ _ => none

end Sys2Proof
end

