-- ==== Sys2Proof/WellFormed.lean ====
section
/-! DEFINITION. Which terms of `Instr` are instructions of the block. The command, read and read-only
write rows fix `W` and `OFF`, and every data word is legal (30_encoding.md R47). The misaligned and
reserved rows carry their offset, which must match the row's pattern (R49). -/

namespace Sys2Proof

/-- The offset of a row `OFF[1:0] = low` (30_encoding.md R49, the misaligned rows). -/
def Offset.lowBitsAre (off : Offset) (low : BitVec 2) : Bool :=
  off.extractLsb' 0 2 == low

/-- Whether an instruction's operands are ones its row's encoding admits (30_encoding.md R49). -/
def Instr.wellFormed : Instr → Bool
  | .wrFreqCmd _ => true
  | .wrPctCmd _ => true
  | .rdFreqCmd _ => true
  | .rdPctCmd _ => true
  | .rdPeriod _ => true
  | .rdDuty _ => true
  | .rdDutyHi _ => true
  | .rdDutyLo _ => true
  | .rdStatus _ => true
  | .rdCfgOsc _ => true
  | .rdCfgPrescale _ => true
  | .rdCfgRes _ => true
  | .rdCfgFscale _ => true
  | .wrPeriod _ => true
  | .wrDuty _ => true
  | .wrDutyHi _ => true
  | .wrDutyLo _ => true
  | .wrStatus _ => true
  | .wrCfgOsc _ => true
  | .wrCfgPrescale _ => true
  | .wrCfgRes _ => true
  | .wrCfgFscale _ => true
  | .misaligned01 _ off _ => Offset.lowBitsAre off 0b01#2
  | .misaligned10 _ off _ => Offset.lowBitsAre off 0b10#2
  | .misaligned11 _ off _ => Offset.lowBitsAre off 0b11#2
  | .reserved00101100 _ off _ => off == 0b00101100#8
  | .reserved0011xx00 _ off _ => off.extractLsb' 4 4 == 0b0011#4 && Offset.lowBitsAre off 0b00#2
  | .reserved01xxxx00 _ off _ => off.extractLsb' 6 2 == 0b01#2 && Offset.lowBitsAre off 0b00#2
  | .reserved1xxxxx00 _ off _ => off.extractLsb' 7 1 == 1#1 && Offset.lowBitsAre off 0b00#2

end Sys2Proof
end

