-- ==== Sys2Proof/Decode.lean ====
section
/-! DEFINITION. Decoding and encoding of transaction words (30_encoding.md R45 to R51). Every 41-bit
word decodes to exactly one instruction; a number that is no 41-bit word is rejected by name. -/

namespace Sys2Proof

/-- The bit that stands for a direction (30_encoding.md R45). -/
def Dir.bit : Dir → BitVec 1
  | .read => 0#1
  | .write => 1#1

/-- The direction a bit stands for (30_encoding.md R45). -/
def Dir.ofBit (b : BitVec 1) : Dir :=
  if b = 1#1 then .write else .read

/-- Field `W`, bit 40 of a transaction word (30_encoding.md R45). -/
def wOf (t : TransactionWord) : Dir := Dir.ofBit (t.extractLsb' 40 1)

/-- Field `OFF`, bits 39 to 32 of a transaction word (30_encoding.md R45). -/
def offOf (t : TransactionWord) : Offset := t.extractLsb' 32 8

/-- Field `DATA`, bits 31 to 0 of a transaction word (30_encoding.md R45). -/
def dataOf (t : TransactionWord) : Word := t.extractLsb' 0 32

/-- The transaction word with the given fields (30_encoding.md R45). -/
def packWord (w : Dir) (off : Offset) (data : Word) : TransactionWord :=
  w.bit ++ off ++ data

/-- The register at an offset, if the offset is mapped (10_state.md R25). -/
def Reg.ofOffset (off : Offset) : Option Reg :=
  if off = 0x00#8 then some .freqCmd
  else if off = 0x04#8 then some .pctCmd
  else if off = 0x08#8 then some .period
  else if off = 0x0C#8 then some .duty
  else if off = 0x10#8 then some .dutyHi
  else if off = 0x14#8 then some .dutyLo
  else if off = 0x18#8 then some .status
  else if off = 0x1C#8 then some .cfgOsc
  else if off = 0x20#8 then some .cfgPrescale
  else if off = 0x24#8 then some .cfgRes
  else if off = 0x28#8 then some .cfgFscale
  else none

/-- The offset of a register (10_state.md R25). -/
def Reg.offset : Reg → Offset
  | .freqCmd => 0x00#8
  | .pctCmd => 0x04#8
  | .period => 0x08#8
  | .duty => 0x0C#8
  | .dutyHi => 0x10#8
  | .dutyLo => 0x14#8
  | .status => 0x18#8
  | .cfgOsc => 0x1C#8
  | .cfgPrescale => 0x20#8
  | .cfgRes => 0x24#8
  | .cfgFscale => 0x28#8

/-- The read of a mapped register (30_encoding.md R48, `RD(OFF)`). -/
def decodeRead (data : Word) : Reg → Instr
  | .freqCmd => .rdFreqCmd data
  | .pctCmd => .rdPctCmd data
  | .period => .rdPeriod data
  | .duty => .rdDuty data
  | .dutyHi => .rdDutyHi data
  | .dutyLo => .rdDutyLo data
  | .status => .rdStatus data
  | .cfgOsc => .rdCfgOsc data
  | .cfgPrescale => .rdCfgPrescale data
  | .cfgRes => .rdCfgRes data
  | .cfgFscale => .rdCfgFscale data

/-- The write to a mapped register: a command, or `WR_READONLY(OFF)` (30_encoding.md R48). -/
def decodeWrite (data : Word) : Reg → Instr
  | .freqCmd => .wrFreqCmd data
  | .pctCmd => .wrPctCmd data
  | .period => .wrPeriod data
  | .duty => .wrDuty data
  | .dutyHi => .wrDutyHi data
  | .dutyLo => .wrDutyLo data
  | .status => .wrStatus data
  | .cfgOsc => .wrCfgOsc data
  | .cfgPrescale => .wrCfgPrescale data
  | .cfgRes => .wrCfgRes data
  | .cfgFscale => .wrCfgFscale data

/-- An aligned offset above the registers, split into the four rows of 30_encoding.md R49. -/
def decodeReserved (w : Dir) (off : Offset) (data : Word) : Instr :=
  if off = 0b00101100#8 then .reserved00101100 w off data
  else if off.extractLsb' 4 4 = 0b0011#4 then .reserved0011xx00 w off data
  else if off.extractLsb' 6 2 = 0b01#2 then .reserved01xxxx00 w off data
  else .reserved1xxxxx00 w off data

/-- An aligned offset (30_encoding.md R48, the `case OFF of`). -/
def decodeAligned (w : Dir) (off : Offset) (data : Word) : Instr :=
  match Reg.ofOffset off with
  | some r =>
    match w with
    | .read => decodeRead data r
    | .write => decodeWrite data r
  | none => decodeReserved w off data

/-- The decode of 30_encoding.md R48 on the three fields: misalignment is looked at first. -/
def decodeFields (w : Dir) (off : Offset) (data : Word) : Instr :=
  if off.extractLsb' 0 2 = 0b01#2 then .misaligned01 w off data
  else if off.extractLsb' 0 2 = 0b10#2 then .misaligned10 w off data
  else if off.extractLsb' 0 2 = 0b11#2 then .misaligned11 w off data
  else decodeAligned w off data

/-- The instruction of a transaction word (30_encoding.md R48). Total: all 512 values of
`(W, OFF)` select a row, with any `DATA`. -/
def decode (t : TransactionWord) : Instr :=
  decodeFields (wOf t) (offOf t) (dataOf t)

/-- Why a number on the port is no transaction. -/
inductive DecodeReject where
  /-- The number needs more than 41 bits: every transaction is one 41-bit word (30_encoding.md R45,
  R51). Safe: no such number has a meaning. -/
  | notATransactionWord
deriving DecidableEq, Repr

/-- Decodes a number, rejecting one that is no 41-bit transaction word. -/
def decodeNat (n : Nat) : Except DecodeReject Instr :=
  if n < 2 ^ 41 then .ok (decode (BitVec.ofNat 41 n)) else .error .notATransactionWord

/-- The decoder on the host's numbering: the low `nbits` bits of `w`, every bit above them 0. -/
def decodeTableWord (nbits w : Nat) : Option Instr :=
  match decodeNat (w % 2 ^ nbits) with
  | .ok i => some i
  | .error _ => none

/-! ### The encoder, written from the encoding column of spec/opcode_table.json -/

/-- The `W` bit of an instruction's word. -/
def Instr.wField : Instr → Dir
  | .wrFreqCmd _ => .write
  | .wrPctCmd _ => .write
  | .rdFreqCmd _ => .read
  | .rdPctCmd _ => .read
  | .rdPeriod _ => .read
  | .rdDuty _ => .read
  | .rdDutyHi _ => .read
  | .rdDutyLo _ => .read
  | .rdStatus _ => .read
  | .rdCfgOsc _ => .read
  | .rdCfgPrescale _ => .read
  | .rdCfgRes _ => .read
  | .rdCfgFscale _ => .read
  | .wrPeriod _ => .write
  | .wrDuty _ => .write
  | .wrDutyHi _ => .write
  | .wrDutyLo _ => .write
  | .wrStatus _ => .write
  | .wrCfgOsc _ => .write
  | .wrCfgPrescale _ => .write
  | .wrCfgRes _ => .write
  | .wrCfgFscale _ => .write
  | .misaligned01 w _ _ => w
  | .misaligned10 w _ _ => w
  | .misaligned11 w _ _ => w
  | .reserved00101100 w _ _ => w
  | .reserved0011xx00 w _ _ => w
  | .reserved01xxxx00 w _ _ => w
  | .reserved1xxxxx00 w _ _ => w

/-- The `OFF` field of an instruction's word. -/
def Instr.offField : Instr → Offset
  | .wrFreqCmd _ => 0b00000000#8
  | .wrPctCmd _ => 0b00000100#8
  | .rdFreqCmd _ => 0b00000000#8
  | .rdPctCmd _ => 0b00000100#8
  | .rdPeriod _ => 0b00001000#8
  | .rdDuty _ => 0b00001100#8
  | .rdDutyHi _ => 0b00010000#8
  | .rdDutyLo _ => 0b00010100#8
  | .rdStatus _ => 0b00011000#8
  | .rdCfgOsc _ => 0b00011100#8
  | .rdCfgPrescale _ => 0b00100000#8
  | .rdCfgRes _ => 0b00100100#8
  | .rdCfgFscale _ => 0b00101000#8
  | .wrPeriod _ => 0b00001000#8
  | .wrDuty _ => 0b00001100#8
  | .wrDutyHi _ => 0b00010000#8
  | .wrDutyLo _ => 0b00010100#8
  | .wrStatus _ => 0b00011000#8
  | .wrCfgOsc _ => 0b00011100#8
  | .wrCfgPrescale _ => 0b00100000#8
  | .wrCfgRes _ => 0b00100100#8
  | .wrCfgFscale _ => 0b00101000#8
  | .misaligned01 _ off _ => off
  | .misaligned10 _ off _ => off
  | .misaligned11 _ off _ => off
  | .reserved00101100 _ off _ => off
  | .reserved0011xx00 _ off _ => off
  | .reserved01xxxx00 _ off _ => off
  | .reserved1xxxxx00 _ off _ => off

/-- The `DATA` field of an instruction's word. -/
def Instr.dataField : Instr → Word
  | .wrFreqCmd data => data
  | .wrPctCmd data => data
  | .rdFreqCmd data => data
  | .rdPctCmd data => data
  | .rdPeriod data => data
  | .rdDuty data => data
  | .rdDutyHi data => data
  | .rdDutyLo data => data
  | .rdStatus data => data
  | .rdCfgOsc data => data
  | .rdCfgPrescale data => data
  | .rdCfgRes data => data
  | .rdCfgFscale data => data
  | .wrPeriod data => data
  | .wrDuty data => data
  | .wrDutyHi data => data
  | .wrDutyLo data => data
  | .wrStatus data => data
  | .wrCfgOsc data => data
  | .wrCfgPrescale data => data
  | .wrCfgRes data => data
  | .wrCfgFscale data => data
  | .misaligned01 _ _ data => data
  | .misaligned10 _ _ data => data
  | .misaligned11 _ _ data => data
  | .reserved00101100 _ _ data => data
  | .reserved0011xx00 _ _ data => data
  | .reserved01xxxx00 _ _ data => data
  | .reserved1xxxxx00 _ _ data => data

/-- The transaction word of an instruction (30_encoding.md R45, R49). -/
def encode (i : Instr) : TransactionWord :=
  packWord i.wField i.offField i.dataField

/-! ### The opcode table as data -/

/-- One row of spec/opcode_table.json: a word matches it when its bits under `mask` are `pattern`. -/
structure OpRow where
  mnemonic : String
  pattern : TransactionWord
  mask : TransactionWord
deriving DecidableEq, Repr

/-- Whether a transaction word matches a row of the opcode table. -/
def OpRow.matchesWord (r : OpRow) (t : TransactionWord) : Bool :=
  (t &&& r.mask) == r.pattern

/-- The rows of spec/opcode_table.json with a mapped offset: commands, reads, read-only writes. -/
def opcodeRowsMapped : List OpRow :=
  [⟨"WR_FREQ_CMD__F", 0x10000000000#41, 0x1FF00000000#41⟩,
   ⟨"WR_PCT_CMD__pct", 0x10400000000#41, 0x1FF00000000#41⟩,
   ⟨"RD_FREQ_CMD", 0x00000000000#41, 0x1FF00000000#41⟩,
   ⟨"RD_PCT_CMD", 0x00400000000#41, 0x1FF00000000#41⟩,
   ⟨"RD_PERIOD", 0x00800000000#41, 0x1FF00000000#41⟩,
   ⟨"RD_DUTY", 0x00C00000000#41, 0x1FF00000000#41⟩,
   ⟨"RD_DUTY_HI", 0x01000000000#41, 0x1FF00000000#41⟩,
   ⟨"RD_DUTY_LO", 0x01400000000#41, 0x1FF00000000#41⟩,
   ⟨"RD_STATUS", 0x01800000000#41, 0x1FF00000000#41⟩,
   ⟨"RD_CFG_OSC", 0x01C00000000#41, 0x1FF00000000#41⟩,
   ⟨"RD_CFG_PRESCALE", 0x02000000000#41, 0x1FF00000000#41⟩,
   ⟨"RD_CFG_RES", 0x02400000000#41, 0x1FF00000000#41⟩,
   ⟨"RD_CFG_FSCALE", 0x02800000000#41, 0x1FF00000000#41⟩,
   ⟨"WR_PERIOD__v__read-only__bus_error", 0x10800000000#41, 0x1FF00000000#41⟩,
   ⟨"WR_DUTY__v__read-only__bus_error", 0x10C00000000#41, 0x1FF00000000#41⟩,
   ⟨"WR_DUTY_HI__v__read-only__bus_error", 0x11000000000#41, 0x1FF00000000#41⟩,
   ⟨"WR_DUTY_LO__v__read-only__bus_error", 0x11400000000#41, 0x1FF00000000#41⟩,
   ⟨"WR_STATUS__v__read-only__bus_error", 0x11800000000#41, 0x1FF00000000#41⟩,
   ⟨"WR_CFG_OSC__v__read-only__bus_error", 0x11C00000000#41, 0x1FF00000000#41⟩,
   ⟨"WR_CFG_PRESCALE__v__read-only__bus_error", 0x12000000000#41, 0x1FF00000000#41⟩,
   ⟨"WR_CFG_RES__v__read-only__bus_error", 0x12400000000#41, 0x1FF00000000#41⟩,
   ⟨"WR_CFG_FSCALE__v__read-only__bus_error", 0x12800000000#41, 0x1FF00000000#41⟩]

/-- The misaligned and reserved rows of spec/opcode_table.json. -/
def opcodeRowsUnmapped : List OpRow :=
  [⟨"misaligned_access__OFF_1_0____01__bus_error", 0x00100000000#41, 0x00300000000#41⟩,
   ⟨"misaligned_access__OFF_1_0____10__bus_error", 0x00200000000#41, 0x00300000000#41⟩,
   ⟨"misaligned_access__OFF_1_0____11__bus_error", 0x00300000000#41, 0x00300000000#41⟩,
   ⟨"reserved_offset__OFF___00101100__bus_error", 0x02C00000000#41, 0x0FF00000000#41⟩,
   ⟨"reserved_offset__OFF___0011xx00__bus_error", 0x03000000000#41, 0x0F300000000#41⟩,
   ⟨"reserved_offset__OFF___01xxxx00__bus_error", 0x04000000000#41, 0x0C300000000#41⟩,
   ⟨"reserved_offset__OFF___1xxxxx00__bus_error", 0x08000000000#41, 0x08300000000#41⟩]

/-- All 29 rows, in the table's order (30_encoding.md R49). -/
def opcodeRows : List OpRow := opcodeRowsMapped ++ opcodeRowsUnmapped

end Sys2Proof
end

