-- ==== Sys2Proof/Config.lean ====
section
/-! DEFINITION. What an implementation of the block fixes: the four configuration parameters
(00_scope.md R6), the two platform parameters (R8), and the one value the spec leaves free. -/

namespace Sys2Proof

/-- The configuration the block is built with (00_scope.md R6, 92_eei_decisions.md D3). A
configuration outside the legal ranges has no value of this type: the model refuses to build such a
block (70_reset_and_hazards.md R109 item 1, D28). -/
structure Config where
  /-- `OSC_HZ`, the oscillator frequency in Hz. -/
  oscHz : Nat
  /-- `PRESCALE`, the timer prescale factor. -/
  prescale : Nat
  /-- `RES`, the bit width of the period register. -/
  res : Nat
  /-- `FREQ_SCALE`, frequency-operand units per hertz. -/
  freqScale : Nat
  oscHz_legal : 1 ≤ oscHz ∧ oscHz ≤ 2 ^ 32 - 1
  prescale_legal : 1 ≤ prescale ∧ prescale ≤ 2 ^ 16 - 1
  res_legal : 1 ≤ res ∧ res ≤ 16
  freqScale_legal : 1 ≤ freqScale ∧ freqScale ≤ 2 ^ 16 - 1
deriving DecidableEq, Repr

namespace Config

/-- The legal ranges of 00_scope.md R6, as a check on four raw numbers. -/
abbrev LegalValues (oscHz prescale res freqScale : Nat) : Prop :=
  (1 ≤ oscHz ∧ oscHz ≤ 2 ^ 32 - 1) ∧ (1 ≤ prescale ∧ prescale ≤ 2 ^ 16 - 1) ∧
    (1 ≤ res ∧ res ≤ 16) ∧ (1 ≤ freqScale ∧ freqScale ≤ 2 ^ 16 - 1)

/-- Builds a configuration, or refuses: 70_reset_and_hazards.md R109 item 1. -/
def build (oscHz prescale res freqScale : Nat) : Option Config :=
  if h : LegalValues oscHz prescale res freqScale then
    some ⟨oscHz, prescale, res, freqScale, h.1, h.2.1, h.2.2.1, h.2.2.2⟩
  else none

/-- The default configuration of 00_scope.md R6 (the musical-tone configuration of R7). -/
def defaults : Config :=
  ⟨10000000, 16, 8, 100, by decide, by decide, by decide, by decide⟩

/-- Whether the response of the `n`-th transaction that reset cuts off still reaches the host: a
FREE VALUE (70_reset_and_hazards.md R106 "its response may be lost", 93_implementation_defined.md
O7; log entry 6, safe). Nothing constrains it. -/
opaque responseSurvivesReset : Nat → Bool

end Config

/-- The parameters of 00_scope.md R8, which no source gives and no rule of the block reads:
`BASE`, the byte address of the register window (20_memory.md R32), and `LATENCY`, the clock cycles
a transaction takes (70_reset_and_hazards.md R114). -/
structure Platform where
  base : Nat
  latency : Nat
deriving DecidableEq, Repr

/-- The platform of `State.reset`. DESIGN CHOICE (log entry 2, unsafe): the spec gives neither
value. -/
def Platform.defaults : Platform := ⟨0, 1⟩

end Sys2Proof
end

