-- ==== Sys2Proof/Machine/State.lean ====
section
/-! DEFINITION. The state of the block (10_state.md R13), the values its arguments take, what the host
side holds, the reset state (R29), and the reasons a step can stop (none: 60_exceptions.md R93). -/

namespace Sys2Proof.Machine

/-- The codes of `STATUS.ERR` (10_state.md R21): all four values of the 2-bit field. -/
inductive ErrCode where
  /-- 0: the last performed command completed without error. -/
  | noError
  /-- 1: raised by `WR FREQ_CMD`. -/
  | outOfRange
  /-- 2: raised by `WR PCT_CMD`. -/
  | notInitialized
  /-- 3: raised by `WR PCT_CMD`. -/
  | invalidPercentage
deriving DecidableEq, Repr

/-- The response codes (60_exceptions.md R91). Code 3 is never produced, so it has no constructor. -/
inductive Resp where
  /-- 0: performed; a command completed without error. -/
  | okay
  /-- 1: a command was decoded and rejected. -/
  | cmdErr
  /-- 2: the transaction did not decode to a permitted access. -/
  | busErr
deriving DecidableEq, Repr

/-- What a transaction returns (30_encoding.md R46). -/
structure Response where
  resp : Resp
  rdata : Word
deriving DecidableEq, Repr

/-- What the host can do to the block (70_reset_and_hazards.md R115). -/
inductive HostEvent where
  /-- A transaction word on the bus slave port (30_encoding.md R45). -/
  | transaction (t : TransactionWord)
  /-- Reset asserted between transactions (70_reset_and_hazards.md R106). -/
  | assertReset
  /-- Reset asserted while transaction `t` is under way (70_reset_and_hazards.md R106). -/
  | resetDuring (t : TransactionWord)
deriving DecidableEq, Repr

/-- The machine. The five middle fields are the block's whole state (10_state.md R13, R27, R28).
`cfg` and `platform` are the model's arguments (00_scope.md R6, R8), which no step changes. The last
three fields are the model's own and stand for the host's side of the port (log entries 3, 4, 6). -/
structure State where
  /-- The configuration the block is built with (00_scope.md R6). -/
  cfg : Config
  /-- `BASE` and `LATENCY` (00_scope.md R8). -/
  platform : Platform
  /-- `PERIOD`, the current period value (10_state.md R16). -/
  period : BitVec cfg.res
  /-- `DUTY`, the duty value, `DW = RES + 3` bits (10_state.md R18). -/
  duty : BitVec (cfg.res + 3)
  /-- `STATUS.ERR` (10_state.md R21). -/
  err : ErrCode
  /-- `STATUS.INIT` (10_state.md R17). -/
  init : Bool
  /-- `STATUS.DUTY_CUR` (10_state.md R22). -/
  dutyCur : Bool
  /-- Host side: what is still to reach the port, in the one order in which the block performs it
  (20_memory.md R36, R40). -/
  port : List HostEvent
  /-- Host side: the responses given so far, newest first (92_eei_decisions.md D31). -/
  responses : List Response
  /-- The index of the next free value `Config.responseSurvivesReset` (log entry 6). -/
  cutOffs : Nat
deriving DecidableEq, Repr

/-- A fault would stop the machine. There is none: no error stops the block (60_exceptions.md R93),
so this type has no constructor. Command errors and bus errors are responses. -/
inductive Fault
deriving DecidableEq, Repr

/-- Why the model would decline an instruction. -/
inductive Refusal where
  /-- The arm of `exec` for an instruction that has no meaning yet would raise it. Every instruction
  has its meaning, so nothing raises it. Safe: the model would stop where the block goes on. -/
  | notModelled (mnemonic : String)
deriving DecidableEq, Repr

/-- The state of a block built with configuration `c` on platform `p` right after reset
(10_state.md R29, 70_reset_and_hazards.md R106), with nothing on the port. -/
def State.resetOf (c : Config) (p : Platform) : State :=
  { cfg := c
    platform := p
    period := 0#c.res
    duty := 0#(c.res + 3)
    err := .noError
    init := false
    dutyCur := false
    port := []
    responses := []
    cutOffs := 0 }

/-- The machine right after reset, in the default configuration of 00_scope.md R6 (log entries 1
and 2). `State.resetOf` gives the same for every other configuration. -/
def State.reset : State := State.resetOf Config.defaults Platform.defaults

end Sys2Proof.Machine
end

