-- ==== Sys2Proof/Machine/Flags.lean ====
section
/-! DEFINITION. The `STATUS` fields: their codes, the word `RD STATUS` returns, and what each command
outcome does to them (10_state.md R17, R20, R21, R22, R26). -/

namespace Sys2Proof.Machine

/-- The 2-bit code of `STATUS.ERR` (10_state.md R21). -/
def ErrCode.bits : ErrCode → BitVec 2
  | .noError => 0#2
  | .outOfRange => 1#2
  | .notInitialized => 2#2
  | .invalidPercentage => 3#2

/-- The 2-bit response code (60_exceptions.md R91). -/
def Resp.bits : Resp → BitVec 2
  | .okay => 0#2
  | .cmdErr => 1#2
  | .busErr => 2#2

/-- The 34-bit response word, RESP above RDATA (30_encoding.md R46). -/
def Response.bits (r : Response) : BitVec 34 := r.resp.bits ++ r.rdata

/-- The 4 used bits of `STATUS`: `DUTY_CUR`, `INIT`, `ERR`, from the top (10_state.md R20). -/
def State.statusBits (s : State) : BitVec 4 :=
  BitVec.ofBool s.dutyCur ++ BitVec.ofBool s.init ++ s.err.bits

/-- The `STATUS` register: its used bits under 28 hardwired zeros (10_state.md R20). -/
def State.statusWord (s : State) : Word := s.statusBits.setWidth 32

/-- Writes `STATUS.ERR`, as every performed command does (10_state.md R21). -/
def State.setErr (s : State) (e : ErrCode) : State := { s with err := e }

/-- The flags after a `WR FREQ_CMD` without error: `INIT` set, `DUTY_CUR` cleared, `ERR` none
(10_state.md R17, R21, R22; 40_commands.md R60). -/
def State.flagsAfterSetFrequency (s : State) : State :=
  { s with init := true, dutyCur := false, err := .noError }

/-- The flags after a `WR PCT_CMD` without error: `DUTY_CUR` set, `ERR` none
(10_state.md R21, R22; 40_commands.md R63). -/
def State.flagsAfterSetDuty (s : State) : State :=
  { s with dutyCur := true, err := .noError }

end Sys2Proof.Machine
end

