-- ==== Sys2Proof/Machine/Operands.lean ====
section
/-! DEFINITION. The numbers of the two operations: rounding (00_scope.md R12), derived constants (R9),
the range predicate, the period function and the duty function (40_commands.md R57 to R63). All of it
is exact natural-number arithmetic. Also where an address lands in the window (20_memory.md R32). -/

namespace Sys2Proof

/-- `round_half_up(a / b)` for naturals, `b > 0`: `fdiv(2*a + b, 2*b)` (00_scope.md R12). -/
def roundHalfUpDiv (a b : Nat) : Nat := (2 * a + b) / (2 * b)

namespace Config

/-- `PMAX`, the largest period value (00_scope.md R9). -/
def pmax (c : Config) : Nat := 2 ^ c.res - 1

/-- `DW`, the width of the duty value (00_scope.md R9). -/
def dw (c : Config) : Nat := c.res + 3

/-- `N`, the scaled oscillator frequency (00_scope.md R9). -/
def scaledOsc (c : Config) : Nat := c.oscHz * c.freqScale

/-- `D = 4 * PRESCALE * F` (40_commands.md R58). -/
def divisor (c : Config) (f : Nat) : Nat := 4 * c.prescale * f

/-- The frequency-range predicate of 40_commands.md R58, both ends inclusive. -/
abbrev inRange (c : Config) (f : Nat) : Prop :=
  1 ≤ f ∧ c.divisor f ≤ c.scaledOsc ∧ c.scaledOsc ≤ c.divisor f * 2 ^ c.res

/-- The period function of 40_commands.md R59. -/
def periodOf (c : Config) (f : Nat) : Nat :=
  roundHalfUpDiv c.scaledOsc (c.divisor f) - 1

end Config

/-- The duty function of 40_commands.md R62. -/
def dutyOf (pct period : Nat) : Nat := (2 * pct * (period + 1) + 25) / 50

/-- The percentages `WR PCT_CMD` accepts (40_commands.md R63): all 32 bits count. -/
abbrev pctValid (pct : Nat) : Prop := pct ≤ 100

/-- The offset the platform passes for a byte address: `(address - BASE)[7:0]` (20_memory.md R32). -/
def Platform.offsetOf (p : Platform) (addr : Nat) : Offset :=
  BitVec.ofInt 8 ((addr : Int) - (p.base : Int))

/-- Whether a byte address lies in the 256-byte window at `BASE` (20_memory.md R31, R32). -/
abbrev Platform.inWindow (p : Platform) (addr : Nat) : Prop :=
  p.base ≤ addr ∧ addr < p.base + 256

end Sys2Proof
end

