-- ==== Sys2Proof/Machine/Ops.lean ====
section
/-! DEFINITION. The named operations on the registers, the responses, the port and reset. The block
has no memory (20_memory.md R31) and no trap (60_exceptions.md R93): its errors are the two
operations `raiseCmdError` and `raiseBusError` of 00_scope.md R11, and nothing returns from one. -/

namespace Sys2Proof.Machine

/-! ### Register writes -/

/-- `PERIOD <- v[RES-1:0]` (40_commands.md R60). -/
def State.setPeriod (s : State) (v : Nat) : State :=
  { s with period := BitVec.ofNat s.cfg.res v }

/-- `DUTY <- zext_DW(v)` (40_commands.md R63). -/
def State.setDuty (s : State) (v : Nat) : State :=
  { s with duty := BitVec.ofNat (s.cfg.res + 3) v }

/-! ### Register reads -/

/-- `DUTY_HI`, the `RES + 1` bits of `DUTY >> 2` (10_state.md R19). -/
def State.dutyHi (s : State) : BitVec (s.cfg.res + 1) := s.duty.extractLsb' 2 (s.cfg.res + 1)

/-- `DUTY_LO`, the low 2 bits of `DUTY` (10_state.md R19). -/
def State.dutyLo (s : State) : BitVec 2 := s.duty.extractLsb' 0 2

/-- The value a read of a register returns, zero-extended to 32 bits (41_reads.md R70). The command
registers have no storage and read as 0 (10_state.md R24). -/
def State.readReg (s : State) : Reg → Word
  | .freqCmd => 0#32
  | .pctCmd => 0#32
  | .period => s.period.setWidth 32
  | .duty => s.duty.setWidth 32
  | .dutyHi => s.dutyHi.setWidth 32
  | .dutyLo => s.dutyLo.setWidth 32
  | .status => s.statusWord
  | .cfgOsc => BitVec.ofNat 32 s.cfg.oscHz
  | .cfgPrescale => (BitVec.ofNat 16 s.cfg.prescale).setWidth 32
  | .cfgRes => (BitVec.ofNat 5 s.cfg.res).setWidth 32
  | .cfgFscale => (BitVec.ofNat 16 s.cfg.freqScale).setWidth 32

/-! ### Ending a transaction -/

/-- `respond(r, d)`: ends the transaction with response code `r` and read data `d`
(00_scope.md R11). -/
def State.respond (s : State) (r : Resp) (d : Word) : State :=
  { s with responses := ⟨r, d⟩ :: s.responses }

/-- A read of a mapped register: `respond(OKAY, value)` and nothing else (41_reads.md R70). -/
def State.performRead (s : State) (r : Reg) : State := s.respond .okay (s.readReg r)

/-- `raise CmdError(code)`: `STATUS.ERR <- code`, nothing else, response `CMDERR`
(00_scope.md R11, 40_commands.md R67). -/
def State.raiseCmdError (s : State) (code : ErrCode) : State :=
  (s.setErr code).respond .cmdErr 0#32

/-- `raise BusError()`: no state changes, response `BUSERR` (00_scope.md R11, 42_bus_errors.md
R82). -/
def State.raiseBusError (s : State) : State := s.respond .busErr 0#32

/-! ### The two commands -/

/-- `set_frequency` on the operand `f` (40_commands.md R60). -/
def State.setFrequency (s : State) (f : Nat) : State :=
  if s.cfg.inRange f then
    ((s.setPeriod (s.cfg.periodOf f)).flagsAfterSetFrequency).respond .okay 0#32
  else s.raiseCmdError .outOfRange

/-- `set_duty_cycle` on the operand `pct` (40_commands.md R63): `NOT_INITIALIZED` is looked at
first (60_exceptions.md R95). -/
def State.setDutyCycle (s : State) (pct : Nat) : State :=
  if s.init = false then s.raiseCmdError .notInitialized
  else if pctValid pct then
    ((s.setDuty (dutyOf pct s.period.toNat)).flagsAfterSetDuty).respond .okay 0#32
  else s.raiseCmdError .invalidPercentage

/-! ### Reset -/

/-- Reset asserted: the five parts of the block's state take their reset values and nothing else
changes (10_state.md R29, 70_reset_and_hazards.md R106). The host keeps what it has received and
what it is still to issue. -/
def State.applyReset (s : State) : State :=
  { s with
    period := 0#s.cfg.res
    duty := 0#(s.cfg.res + 3)
    err := .noError
    init := false
    dutyCur := false }

/-- Reset asserted while a transaction was under way; `performed` is what performing the transaction
from `s` answers. The block's state is the reset state whether or not it was performed. Its response
may be lost: `Config.responseSurvivesReset`, a free value, says whether the host received it
(70_reset_and_hazards.md R106; log entry 6). -/
def State.applyResetDuring (s : State) (performed : Host.Outcome State Fault Refusal) :
    Host.Outcome State Fault Refusal :=
  match performed with
  | .next p =>
    .next { s.applyReset with
      responses := bif Config.responseSurvivesReset s.cutOffs then p.responses else s.responses
      cutOffs := s.cutOffs + 1 }
  | .fault e => .fault e
  | .refused e => .refused e

/-! ### The host's side of the port -/

/-- `BusRead(off)` (00_scope.md R11); `DATA` is 0 (30_encoding.md R52). -/
def busRead (off : Offset) : TransactionWord := packWord .read off 0#32

/-- `BusWrite(off, v)` (00_scope.md R11). -/
def busWrite (off : Offset) (v : Word) : TransactionWord := packWord .write off v

/-- Why an access of a bus master gives the block no transaction. -/
inductive AccessReject where
  /-- The access is not one 32-bit word: it has no encoding (20_memory.md R33). Safe. -/
  | subWord
  /-- The address is outside the window: the platform's business (20_memory.md R32). Safe. -/
  | outsideWindow
deriving DecidableEq, Repr

/-- The merge of two masters' events that a schedule picks: `true` takes the first master's next
event, `false` the second's (20_memory.md R40). Each master's own order is kept, and what is left
when the schedule ends follows in order. -/
def interleave {α : Type} : List Bool → List α → List α → List α
  | [], a, b => a ++ b
  | true :: sched, x :: a, b => x :: interleave sched a b
  | true :: sched, [], b => interleave sched [] b
  | false :: sched, a, y :: b => y :: interleave sched a b
  | false :: sched, a, [] => interleave sched a []

/-- The merge of any number of masters, one schedule for each (20_memory.md R40). -/
def mergeMasters {α : Type} : List (List Bool) → List (List α) → List α
  | _, [] => []
  | [], m :: ms => m ++ mergeMasters [] ms
  | sched :: scheds, m :: ms => interleave sched m (mergeMasters scheds ms)

end Sys2Proof.Machine

namespace Sys2Proof

/-- The transaction word the platform presents for an access of `bytes` bytes at a byte address
(20_memory.md R32, R33). -/
def Platform.accessWord (p : Platform) (w : Dir) (addr bytes : Nat) (data : Word) :
    Except Machine.AccessReject TransactionWord :=
  if bytes ≠ 4 then .error .subWord
  else if p.inWindow addr then .ok (packWord w (p.offsetOf addr) data)
  else .error .outsideWindow

end Sys2Proof
end

