-- ==== Sys2Proof/Machine/BusErrors.lean ====
section
/-! DEFINITION. The bus-error transactions (42_bus_errors.md R82 to R86): each answers `BUSERR` and
changes no state of the block, whatever its operands. -/

namespace Sys2Proof.Machine

/-- `WR PERIOD, v` (42_bus_errors.md R84). -/
def execWrPeriod (_data : Word) (s : State) : Host.Outcome State Fault Refusal :=
  .next s.raiseBusError

/-- `WR DUTY, v` (42_bus_errors.md R84). -/
def execWrDuty (_data : Word) (s : State) : Host.Outcome State Fault Refusal :=
  .next s.raiseBusError

/-- `WR DUTY_HI, v` (42_bus_errors.md R84). -/
def execWrDutyHi (_data : Word) (s : State) : Host.Outcome State Fault Refusal :=
  .next s.raiseBusError

/-- `WR DUTY_LO, v` (42_bus_errors.md R84). -/
def execWrDutyLo (_data : Word) (s : State) : Host.Outcome State Fault Refusal :=
  .next s.raiseBusError

/-- `WR STATUS, v` (42_bus_errors.md R84). -/
def execWrStatus (_data : Word) (s : State) : Host.Outcome State Fault Refusal :=
  .next s.raiseBusError

/-- `WR CFG_OSC, v` (42_bus_errors.md R84). -/
def execWrCfgOsc (_data : Word) (s : State) : Host.Outcome State Fault Refusal :=
  .next s.raiseBusError

/-- `WR CFG_PRESCALE, v` (42_bus_errors.md R84). -/
def execWrCfgPrescale (_data : Word) (s : State) : Host.Outcome State Fault Refusal :=
  .next s.raiseBusError

/-- `WR CFG_RES, v` (42_bus_errors.md R84). -/
def execWrCfgRes (_data : Word) (s : State) : Host.Outcome State Fault Refusal :=
  .next s.raiseBusError

/-- `WR CFG_FSCALE, v` (42_bus_errors.md R84). -/
def execWrCfgFscale (_data : Word) (s : State) : Host.Outcome State Fault Refusal :=
  .next s.raiseBusError

/-- `misaligned access, OFF[1:0] = 01` (42_bus_errors.md R86). -/
def execMisaligned01 (_w : Dir) (_off : Offset) (_data : Word) (s : State) : Host.Outcome State Fault Refusal :=
  .next s.raiseBusError

/-- `misaligned access, OFF[1:0] = 10` (42_bus_errors.md R86). -/
def execMisaligned10 (_w : Dir) (_off : Offset) (_data : Word) (s : State) : Host.Outcome State Fault Refusal :=
  .next s.raiseBusError

/-- `misaligned access, OFF[1:0] = 11` (42_bus_errors.md R86). -/
def execMisaligned11 (_w : Dir) (_off : Offset) (_data : Word) (s : State) : Host.Outcome State Fault Refusal :=
  .next s.raiseBusError

/-- `reserved offset, OFF = 00101100` (42_bus_errors.md R85). -/
def execReserved00101100 (_w : Dir) (_off : Offset) (_data : Word) (s : State) : Host.Outcome State Fault Refusal :=
  .next s.raiseBusError

/-- `reserved offset, OFF = 0011xx00` (42_bus_errors.md R85). -/
def execReserved0011xx00 (_w : Dir) (_off : Offset) (_data : Word) (s : State) : Host.Outcome State Fault Refusal :=
  .next s.raiseBusError

/-- `reserved offset, OFF = 01xxxx00` (42_bus_errors.md R85). -/
def execReserved01xxxx00 (_w : Dir) (_off : Offset) (_data : Word) (s : State) : Host.Outcome State Fault Refusal :=
  .next s.raiseBusError

/-- `reserved offset, OFF = 1xxxxx00` (42_bus_errors.md R85). -/
def execReserved1xxxxx00 (_w : Dir) (_off : Offset) (_data : Word) (s : State) : Host.Outcome State Fault Refusal :=
  .next s.raiseBusError

end Sys2Proof.Machine
end

