-- ==== Sys2Proof/Machine/Commands.lean ====
section
/-! DEFINITION. The two commands (40_commands.md R60, R63). -/

namespace Sys2Proof.Machine

/-- `WR FREQ_CMD, F`: set_frequency (40_commands.md R60). All 32 bits of the data word are the
operand (30_encoding.md R47). -/
def execWrFreqCmd (f : Word) (s : State) : Host.Outcome State Fault Refusal :=
  .next (s.setFrequency f.toNat)

/-- `WR PCT_CMD, pct`: set_duty_cycle (40_commands.md R63). All 32 bits of the data word are the
operand (30_encoding.md R47). -/
def execWrPctCmd (pct : Word) (s : State) : Host.Outcome State Fault Refusal :=
  .next (s.setDutyCycle pct.toNat)

end Sys2Proof.Machine
end

