-- ==== Sys2Proof/Machine/Reads.lean ====
section
/-! DEFINITION. The register reads (41_reads.md R70 to R81): each answers `OKAY` with its register's
value and changes no state of the block. The data word is ignored (30_encoding.md R47). -/

namespace Sys2Proof.Machine

/-- `RD FREQ_CMD` (41_reads.md R71). -/
def execRdFreqCmd (_data : Word) (s : State) : Host.Outcome State Fault Refusal :=
  .next (s.performRead .freqCmd)

/-- `RD PCT_CMD` (41_reads.md R72). -/
def execRdPctCmd (_data : Word) (s : State) : Host.Outcome State Fault Refusal :=
  .next (s.performRead .pctCmd)

/-- `RD PERIOD` (41_reads.md R73). -/
def execRdPeriod (_data : Word) (s : State) : Host.Outcome State Fault Refusal :=
  .next (s.performRead .period)

/-- `RD DUTY` (41_reads.md R74). -/
def execRdDuty (_data : Word) (s : State) : Host.Outcome State Fault Refusal :=
  .next (s.performRead .duty)

/-- `RD DUTY_HI` (41_reads.md R75). -/
def execRdDutyHi (_data : Word) (s : State) : Host.Outcome State Fault Refusal :=
  .next (s.performRead .dutyHi)

/-- `RD DUTY_LO` (41_reads.md R76). -/
def execRdDutyLo (_data : Word) (s : State) : Host.Outcome State Fault Refusal :=
  .next (s.performRead .dutyLo)

/-- `RD STATUS` (41_reads.md R77). -/
def execRdStatus (_data : Word) (s : State) : Host.Outcome State Fault Refusal :=
  .next (s.performRead .status)

/-- `RD CFG_OSC` (41_reads.md R78). -/
def execRdCfgOsc (_data : Word) (s : State) : Host.Outcome State Fault Refusal :=
  .next (s.performRead .cfgOsc)

/-- `RD CFG_PRESCALE` (41_reads.md R79). -/
def execRdCfgPrescale (_data : Word) (s : State) : Host.Outcome State Fault Refusal :=
  .next (s.performRead .cfgPrescale)

/-- `RD CFG_RES` (41_reads.md R80). -/
def execRdCfgRes (_data : Word) (s : State) : Host.Outcome State Fault Refusal :=
  .next (s.performRead .cfgRes)

/-- `RD CFG_FSCALE` (41_reads.md R81). -/
def execRdCfgFscale (_data : Word) (s : State) : Host.Outcome State Fault Refusal :=
  .next (s.performRead .cfgFscale)

end Sys2Proof.Machine
end

