-- ==== Sys2Proof/Machine/Dispatch.lean ====
section
/-! DEFINITION. Dispatch: one arm per instruction, each one call of its meaning. -/

namespace Sys2Proof.Machine

open Sys2Proof

def exec (i : Instr) (s : State) : Host.Outcome State Fault Refusal :=
  match i with
  | .wrFreqCmd f => Sys2Proof.Machine.execWrFreqCmd f s
  | .wrPctCmd pct => Sys2Proof.Machine.execWrPctCmd pct s
  | .rdFreqCmd data => Sys2Proof.Machine.execRdFreqCmd data s
  | .rdPctCmd data => Sys2Proof.Machine.execRdPctCmd data s
  | .rdPeriod data => Sys2Proof.Machine.execRdPeriod data s
  | .rdDuty data => Sys2Proof.Machine.execRdDuty data s
  | .rdDutyHi data => Sys2Proof.Machine.execRdDutyHi data s
  | .rdDutyLo data => Sys2Proof.Machine.execRdDutyLo data s
  | .rdStatus data => Sys2Proof.Machine.execRdStatus data s
  | .rdCfgOsc data => Sys2Proof.Machine.execRdCfgOsc data s
  | .rdCfgPrescale data => Sys2Proof.Machine.execRdCfgPrescale data s
  | .rdCfgRes data => Sys2Proof.Machine.execRdCfgRes data s
  | .rdCfgFscale data => Sys2Proof.Machine.execRdCfgFscale data s
  | .wrPeriod data => Sys2Proof.Machine.execWrPeriod data s
  | .wrDuty data => Sys2Proof.Machine.execWrDuty data s
  | .wrDutyHi data => Sys2Proof.Machine.execWrDutyHi data s
  | .wrDutyLo data => Sys2Proof.Machine.execWrDutyLo data s
  | .wrStatus data => Sys2Proof.Machine.execWrStatus data s
  | .wrCfgOsc data => Sys2Proof.Machine.execWrCfgOsc data s
  | .wrCfgPrescale data => Sys2Proof.Machine.execWrCfgPrescale data s
  | .wrCfgRes data => Sys2Proof.Machine.execWrCfgRes data s
  | .wrCfgFscale data => Sys2Proof.Machine.execWrCfgFscale data s
  | .misaligned01 w off data => Sys2Proof.Machine.execMisaligned01 w off data s
  | .misaligned10 w off data => Sys2Proof.Machine.execMisaligned10 w off data s
  | .misaligned11 w off data => Sys2Proof.Machine.execMisaligned11 w off data s
  | .reserved00101100 w off data => Sys2Proof.Machine.execReserved00101100 w off data s
  | .reserved0011xx00 w off data => Sys2Proof.Machine.execReserved0011xx00 w off data s
  | .reserved01xxxx00 w off data => Sys2Proof.Machine.execReserved01xxxx00 w off data s
  | .reserved1xxxxx00 w off data => Sys2Proof.Machine.execReserved1xxxxx00 w off data s

end Sys2Proof.Machine
end

