-- ==== Sys2Proof/Machine/Step.lean ====
section
/-! DEFINITION. One step of the machine: the next host event at the port, performed whole
(20_memory.md R36, 70_reset_and_hazards.md R114: one transaction is one step). -/

namespace Sys2Proof.Machine

/-- One step. With nothing on the port the block does nothing (00_scope.md R3; log entry 7). A
transaction is taken off the port, decoded and performed. -/
def step (s : State) : Host.Outcome State Fault Refusal :=
  match s.port with
  | [] => .next s
  | .transaction t :: rest => exec (decode t) { s with port := rest }
  | .assertReset :: rest => .next { s with port := rest }.applyReset
  | .resetDuring t :: rest =>
    State.applyResetDuring { s with port := rest } (exec (decode t) { s with port := rest })

/-- The state with the transaction whose bits are the low `nbits` bits of `w` presented next on the
port (log entry 3: the host's program is presented from outside the block). -/
def State.withFetchWord (s : State) (nbits w : Nat) : State :=
  { s with port := .transaction (BitVec.ofNat 41 (w % 2 ^ nbits)) :: s.port }

end Sys2Proof.Machine
end

