-- ==== Sys2Proof/Machine/Assembler.lean ====
section
/-! DEFINITION. The assembler text of transactions and the pseudo-instructions (30_encoding.md R52,
R53). It is the host's notation: nothing of it is state of the block. Lexical details the spec does
not give are log entry 9. -/

namespace Sys2Proof.Machine

/-- Why the assembler refuses a line (30_encoding.md R52, R53). -/
inductive AsmReject where
  /-- The line is none of the forms of R52. -/
  | notAStatement
  /-- A value above 2^32 - 1 (R52 "else the assembler refuses the line"). -/
  | valueTooLarge
  /-- `SETF` with `hz * FREQ_SCALE` no integer: it never rounds (R53). -/
  | inexactFrequency
deriving DecidableEq, Repr

/-- A decimal number `mantissa / 10^places`, such as `1046.50` (30_encoding.md R53). -/
structure Decimal where
  mantissa : Nat
  places : Nat
deriving DecidableEq, Repr

/-- A statement of the assembler (30_encoding.md R52, R53). -/
inductive AsmStmt where
  | wr (off : Offset) (value : Nat)
  | rd (off : Offset)
  | setf (hz : Decimal)
  | setd (pct : Nat)
  | retune (hz : Decimal) (pct : Nat)
  | check
deriving DecidableEq, Repr

/-! ### Assembling -/

/-- A 32-bit data word, refused when the number is above 2^32 - 1 (30_encoding.md R52). -/
def asmWord (v : Nat) : Except AsmReject Word :=
  if v < 2 ^ 32 then .ok (BitVec.ofNat 32 v) else .error .valueTooLarge

/-- The operand `F = hz * FREQ_SCALE` of `SETF`, refused unless it is an integer in range: the
assembler never rounds (30_encoding.md R53). -/
def asmFrequency (c : Config) (hz : Decimal) : Except AsmReject Word :=
  if (hz.mantissa * c.freqScale) % 10 ^ hz.places = 0 then
    asmWord (hz.mantissa * c.freqScale / 10 ^ hz.places)
  else .error .inexactFrequency

/-- The word of `WR reg, value` at the register's offset (30_encoding.md R52). -/
def asmWrite (off : Offset) (v : Except AsmReject Word) : Except AsmReject TransactionWord :=
  match v with
  | .ok d => .ok (busWrite off d)
  | .error e => .error e

/-- Two parts of one expansion, in order. -/
def asmBoth (a b : Except AsmReject TransactionWord) : Except AsmReject (List TransactionWord) :=
  match a, b with
  | .ok x, .ok y => .ok [x, y]
  | .error e, _ => .error e
  | .ok _, .error e => .error e

/-- One word as a list. -/
def asmOne (a : Except AsmReject TransactionWord) : Except AsmReject (List TransactionWord) :=
  match a with
  | .ok x => .ok [x]
  | .error e => .error e

/-- The transaction words of a statement (30_encoding.md R52, R53): `RETUNE` is two transactions,
every other statement is one. -/
def assemble (c : Config) : AsmStmt → Except AsmReject (List TransactionWord)
  | .wr off v => asmOne (asmWrite off (asmWord v))
  | .rd off => .ok [busRead off]
  | .setf hz => asmOne (asmWrite Reg.freqCmd.offset (asmFrequency c hz))
  | .setd pct => asmOne (asmWrite Reg.pctCmd.offset (asmWord pct))
  | .retune hz pct =>
    asmBoth (asmWrite Reg.freqCmd.offset (asmFrequency c hz))
      (asmWrite Reg.pctCmd.offset (asmWord pct))
  | .check => .ok [busRead Reg.status.offset]

/-! ### Reading the text of a line -/

/-- The value of a hexadecimal digit. -/
def digitValue (ch : Char) : Option Nat :=
  if '0' ≤ ch ∧ ch ≤ '9' then some (ch.toNat - '0'.toNat)
  else if 'A' ≤ ch ∧ ch ≤ 'F' then some (ch.toNat - 'A'.toNat + 10)
  else if 'a' ≤ ch ∧ ch ≤ 'f' then some (ch.toNat - 'a'.toNat + 10)
  else none

/-- Digits in a base, read onto an accumulator. -/
def digitsValue (base : Nat) : Nat → List Char → Option Nat
  | acc, [] => some acc
  | acc, ch :: rest =>
    match digitValue ch with
    | some d => if d < base then digitsValue base (acc * base + d) rest else none
    | none => none

/-- A number of at least one digit. -/
def parseDigits (base : Nat) (text : List Char) : Option Nat :=
  if text = [] then none else digitsValue base 0 text

/-- `value := decimal | "0x" hex` (30_encoding.md R52). -/
def parseValue : List Char → Option Nat
  | '0' :: 'x' :: hex => parseDigits 16 hex
  | text => parseDigits 10 text

/-- A decimal number with an optional fraction (30_encoding.md R53, `SETF hz`). -/
def parseDecimal (text : List Char) : Option Decimal :=
  let whole := text.takeWhile (· ≠ '.')
  match text.dropWhile (· ≠ '.') with
  | [] => (parseDigits 10 whole).map fun n => ⟨n, 0⟩
  | _ :: frac =>
    match parseDigits 10 whole, parseDigits 10 frac with
    | some n, some m => some ⟨n * 10 ^ frac.length + m, frac.length⟩
    | _, _ => none

/-- The register names of 10_state.md R25, upper case (30_encoding.md R52). -/
def Reg.name : Reg → String
  | .freqCmd => "FREQ_CMD"
  | .pctCmd => "PCT_CMD"
  | .period => "PERIOD"
  | .duty => "DUTY"
  | .dutyHi => "DUTY_HI"
  | .dutyLo => "DUTY_LO"
  | .status => "STATUS"
  | .cfgOsc => "CFG_OSC"
  | .cfgPrescale => "CFG_PRESCALE"
  | .cfgRes => "CFG_RES"
  | .cfgFscale => "CFG_FSCALE"

/-- All registers, in the order of the register map (10_state.md R25). -/
def allRegs : List Reg :=
  [.freqCmd, .pctCmd, .period, .duty, .dutyHi, .dutyLo, .status, .cfgOsc, .cfgPrescale, .cfgRes,
    .cfgFscale]

/-- `reg := name | "@" hex8` (30_encoding.md R52): the offset an operand names. -/
def parseReg : List Char → Option Offset
  | ['@', h, l] => (parseDigits 16 [h, l]).map (BitVec.ofNat 8)
  | text => (allRegs.find? fun r => (Reg.name r).toList = text).map Reg.offset

/-- Adds a finished token, given in reverse, in front of the later tokens. -/
def flushToken (current : List Char) (rest : List (List Char)) : List (List Char) :=
  if current = [] then rest else current.reverse :: rest

/-- The tokens of a line without its comment: words apart at blanks, each comma a token. -/
def tokens : List Char → List Char → List (List Char)
  | current, [] => flushToken current []
  | current, ch :: rest =>
    if ch = ' ' ∨ ch = '\t' then flushToken current (tokens [] rest)
    else if ch = ',' then flushToken current ([','] :: tokens [] rest)
    else tokens (ch :: current) rest

/-- `WR reg, value` (30_encoding.md R52). -/
def parseWr (reg value : List Char) : Option AsmStmt :=
  match parseReg reg, parseValue value with
  | some off, some v => some (.wr off v)
  | _, _ => none

/-- `RETUNE hz, pct` (30_encoding.md R53). -/
def parseRetune (hz pct : List Char) : Option AsmStmt :=
  match parseDecimal hz, parseDigits 10 pct with
  | some h, some p => some (.retune h p)
  | _, _ => none

/-- The statement a list of tokens spells (30_encoding.md R52, R53). -/
def parseTokens (toks : List (List Char)) : Option AsmStmt :=
  match toks with
  | [m, reg, [','], value] =>
    if m = "WR".toList then parseWr reg value
    else if m = "RETUNE".toList then parseRetune reg value
    else none
  | [m, arg] =>
    if m = "RD".toList then (parseReg arg).map .rd
    else if m = "SETF".toList then (parseDecimal arg).map .setf
    else if m = "SETD".toList then (parseDigits 10 arg).map .setd
    else none
  | [m] => if m = "CHECK".toList then some .check else none
  | _ => none

/-- `line := [ stmt ] [ ";" comment ]` (30_encoding.md R52): the transaction words of a line, none
for a line without a statement. -/
def assembleLine (c : Config) (line : String) : Except AsmReject (List TransactionWord) :=
  match tokens [] (line.toList.takeWhile (· ≠ ';')) with
  | [] => .ok []
  | toks =>
    match parseTokens toks with
    | some stmt => assemble c stmt
    | none => .error .notAStatement

/-- A program: its lines in order, refused at the first line that is. -/
def assembleProgram (c : Config) : List String → Except AsmReject (List TransactionWord)
  | [] => .ok []
  | line :: lines =>
    match assembleLine c line, assembleProgram c lines with
    | .ok a, .ok b => .ok (a ++ b)
    | .error e, _ => .error e
    | .ok _, .error e => .error e

/-! ### The comment that records a response -/

/-- The name of a response code (60_exceptions.md R91). -/
def Resp.name : Resp → String
  | .okay => "OKAY"
  | .cmdErr => "CMDERR"
  | .busErr => "BUSERR"

/-- The lowest `n` hexadecimal digits of a number, highest first. -/
def hexDigits : Nat → Nat → List Char
  | 0, _ => []
  | n + 1, v => hexDigits n (v / 16) ++ [Nat.digitChar (v % 16)]

/-- The comment `; -> RESP, RDATA` of a line (30_encoding.md R52), the data as eight hexadecimal
digits (as in 95_test_vectors.md). -/
def Response.comment (r : Response) : List Char :=
  "; -> ".toList ++ r.resp.name.toList ++ ", 0x".toList ++
    (hexDigits 8 r.rdata.toNat).map Char.toUpper

end Sys2Proof.Machine
end

