-- ==== Sys2Proof/Safety.lean ====
section
/-! DEFINITION. The terms claims about the machine are stated in: the block apart from its host, the
invariants of 10_state.md R30, what performing a transaction leaves, and runs from reset. -/

namespace Sys2Proof.Machine

/-- The block alone: the state with the host's side emptied. Two states hold the same block (the same
arguments and the same five parts of 10_state.md R13) exactly when these are equal. -/
def State.block (s : State) : State := { s with port := [], responses := [], cutOffs := 0 }

/-- The invariants of 10_state.md R30, in its order. Items 1 and 3 also follow from the widths. -/
structure State.Inv (s : State) : Prop where
  period_le : s.period.toNat ≤ 2 ^ s.cfg.res - 1
  period_zero : s.init = false → s.period.toNat = 0
  duty_lt : s.duty.toNat < 2 ^ (s.cfg.res + 3)
  dutyCur_init : s.dutyCur = true → s.init = true ∧ s.duty.toNat ≤ 4 * (s.period.toNat + 1)
  dutyCur_duty : s.dutyCur = true →
    ∃ p ≤ 100, s.duty.toNat = (2 * p * (s.period.toNat + 1) + 25) / 50

/-- `PERIOD` holds a period computed by a command (10_state.md R17): some operand in range gives
it. -/
def State.PeriodComputed (s : State) : Prop :=
  ∃ f : Word, s.cfg.inRange f.toNat ∧ s.period.toNat = s.cfg.periodOf f.toNat

/-- What performing one transaction word leaves (20_memory.md R36), the host's program apart. -/
def State.perform (s : State) (t : TransactionWord) : State :=
  match exec (decode t) s with
  | .next u => u
  | .fault _ => s
  | .refused _ => s

/-- A state of some block that some host events lead to from reset (20_memory.md R40). -/
def State.Reachable (s : State) : Prop :=
  ∃ (c : Config) (p : Platform) (events : List HostEvent) (k : Nat),
    Sys2Proof.core.run k { State.resetOf c p with port := events } = .next s

/-- The response of the latest transaction. -/
def State.lastResponse (s : State) : Option Response := s.responses.head?

end Sys2Proof.Machine
end

