-- ==== Sys2Proof/Certificates/Slice0/Obligations.lean ====
section
/-! DEFINITION. The statements about the machine, rule by rule of spec/. -/

open Sys2Proof Sys2Proof.Machine

/-! ### Numbers: 00_scope.md and 40_commands.md sections 1 and 3 -/

/-- 00_scope.md R12: rounding half up. -/
def Obligations.RoundHalfUpIsFloorOfPlusHalf : Prop :=
  ∀ a b : Nat, 0 < b →
    (roundHalfUpDiv a b : ℤ) = ⌊(a : ℚ) / b + 1 / 2⌋ ∧
    roundHalfUpDiv a b = (2 * a + b) / (2 * b) ∧
    (2 * (a % b) = b → roundHalfUpDiv a b = a / b + 1)

/-- 00_scope.md R6 and 70_reset_and_hazards.md R109 item 1: the legal ranges, the defaults, and that
no step changes the configuration. -/
def Obligations.ConfigurationIsLegalAndFixed : Prop :=
  (∀ osc pre res fs : Nat,
    ((1 ≤ osc ∧ osc ≤ 4294967295) ∧ (1 ≤ pre ∧ pre ≤ 65535) ∧ (1 ≤ res ∧ res ≤ 16) ∧
        (1 ≤ fs ∧ fs ≤ 65535) →
      ∃ c, Config.build osc pre res fs = some c ∧
        c.oscHz = osc ∧ c.prescale = pre ∧ c.res = res ∧ c.freqScale = fs) ∧
    (¬ ((1 ≤ osc ∧ osc ≤ 4294967295) ∧ (1 ≤ pre ∧ pre ≤ 65535) ∧ (1 ≤ res ∧ res ≤ 16) ∧
        (1 ≤ fs ∧ fs ≤ 65535)) →
      Config.build osc pre res fs = none)) ∧
  Config.build 10000000 16 8 100 = some Config.defaults ∧
  (∀ s t : State, step s = .next t → t.cfg = s.cfg)

/-- 40_commands.md R58: the range predicate, in integers and in hertz. -/
def Obligations.InRangeIsTheFrequencyRange : Prop :=
  ∀ (c : Config) (f : Nat),
    (c.inRange f ↔
      1 ≤ f ∧ 4 * c.prescale * f ≤ c.oscHz * c.freqScale ∧
        c.oscHz * c.freqScale ≤ 4 * c.prescale * f * 2 ^ c.res) ∧
    (c.inRange f ↔
      (c.oscHz : ℚ) / (4 * 2 ^ c.res * c.prescale) ≤ (f : ℚ) / c.freqScale ∧
        (f : ℚ) / c.freqScale ≤ (c.oscHz : ℚ) / (4 * c.prescale))

/-- 40_commands.md R59: the period function is the source's formula, rounded half up. -/
def Obligations.PeriodIsTheRoundedFormula : Prop :=
  ∀ (c : Config) (f : Nat), c.inRange f →
    c.periodOf f =
      (2 * (c.oscHz * c.freqScale) + 4 * c.prescale * f) / (2 * (4 * c.prescale * f)) - 1 ∧
    (c.periodOf f : ℤ) =
      ⌊(c.oscHz * c.freqScale : ℚ) / (4 * c.prescale * f) + 1 / 2⌋ - 1 ∧
    (c.periodOf f : ℤ) =
      ⌊(1 / 4 : ℚ) * c.oscHz / ((f : ℚ) / c.freqScale) / c.prescale + 1 / 2⌋ - 1

/-- 40_commands.md R61: a period in range fits the register. -/
def Obligations.PeriodInRangeFits : Prop :=
  ∀ (c : Config) (f : Nat), c.inRange f →
    1 ≤ (2 * (c.oscHz * c.freqScale) + 4 * c.prescale * f) / (2 * (4 * c.prescale * f)) ∧
    (2 * (c.oscHz * c.freqScale) + 4 * c.prescale * f) / (2 * (4 * c.prescale * f)) ≤ 2 ^ c.res ∧
    c.periodOf f ≤ 2 ^ c.res - 1

/-- 40_commands.md R65: the frequency re-derived from the period, with `r = N / D`. -/
def Obligations.PeriodRoundTripAccuracy : Prop :=
  ∀ (c : Config) (f : Nat), c.inRange f →
    let r : ℚ := (c.oscHz * c.freqScale) / (4 * c.prescale * f)
    let p1 : ℚ := c.periodOf f + 1
    let target : ℚ := (f : ℚ) / c.freqScale
    let rederived : ℚ := c.oscHz / (4 * c.prescale * p1)
    (-(1 / 2) : ℚ) ≤ r - p1 ∧ r - p1 < 1 / 2 ∧ rederived = target * r / p1 ∧
      abs (rederived - target) / target ≤ 1 / (2 * p1)

/-- 40_commands.md R62: the duty function is the source's formula, rounded half up. -/
def Obligations.DutyIsTheRoundedFormula : Prop :=
  ∀ pct period : Nat,
    dutyOf pct period = (2 * pct * (period + 1) + 25) / 50 ∧
    (dutyOf pct period : ℤ) = ⌊(pct : ℚ) / 100 * (period + 1) * 4 + 1 / 2⌋

/-- 40_commands.md R64: end points, monotonicity and bounds, and that no tie occurs. -/
def Obligations.DutyLawsHold : Prop :=
  ∀ (c : Config) (pct period : Nat), pct ≤ 100 → period ≤ 2 ^ c.res - 1 →
    let exact : ℚ := (pct : ℚ) / 100 * 4 * (period + 1)
    dutyOf 0 period = 0 ∧ dutyOf 100 period = 4 * (period + 1) ∧
    (∀ pct' ≤ pct, dutyOf pct' period ≤ dutyOf pct period) ∧
    dutyOf pct period ≤ 4 * (period + 1) ∧ 4 * (period + 1) ≤ 2 ^ (c.res + 2) ∧
    2 ^ (c.res + 2) < 2 ^ (c.res + 3) ∧
    Int.fract exact ≠ 1 / 2 ∧
    (∀ n : ℤ, (∀ m : ℤ, abs (exact - n) ≤ abs (exact - m)) → n = dutyOf pct period) ∧
    abs (exact - dutyOf pct period) ≤ 12 / 25

/-- 40_commands.md R66: the accuracy of the duty value, and the source's bound. -/
def Obligations.DutyAccuracy : Prop :=
  ∀ pct period : Nat,
    abs ((dutyOf pct period : ℚ) / (4 * (period + 1)) - (pct : ℚ) / 100) ≤
      12 / (100 * (period + 1)) ∧
    (12 : ℚ) / (100 * (period + 1)) < 1 / (4 * (period + 1))

/-! ### Encoding: 30_encoding.md -/

/-- 30_encoding.md R45: the fields of a transaction word, as a number. -/
def Obligations.TransactionWordFields : Prop :=
  (∀ (w : Dir) (off : Offset) (data : Word),
    (packWord w off data).toNat =
      (if w = .write then 1 else 0) * 2 ^ 40 + off.toNat * 2 ^ 32 + data.toNat) ∧
  (∀ t : TransactionWord,
    (wOf t = .write ↔ t.toNat / 2 ^ 40 = 1) ∧ (offOf t).toNat = t.toNat / 2 ^ 32 % 256 ∧
      (dataOf t).toNat = t.toNat % 2 ^ 32 ∧ packWord (wOf t) (offOf t) (dataOf t) = t)

/-- 30_encoding.md R48, R49: decoding an encoded instruction gives it back. -/
def Obligations.DecodeOfEncode : Prop :=
  ∀ i : Instr, i.wellFormed = true → decode (encode i) = i

/-- 30_encoding.md R48, R49: every word is the encoding of the one instruction it decodes to. -/
def Obligations.EncodeOfDecode : Prop :=
  ∀ t : TransactionWord, (decode t).wellFormed = true ∧ encode (decode t) = t

/-- 30_encoding.md R48: the decode map, class by class. -/
def Obligations.DecodeFollowsTheMap : Prop :=
  ∀ (w : Dir) (off : Offset) (d : Word),
    (off.toNat % 4 = 1 → decode (packWord w off d) = .misaligned01 w off d) ∧
    (off.toNat % 4 = 2 → decode (packWord w off d) = .misaligned10 w off d) ∧
    (off.toNat % 4 = 3 → decode (packWord w off d) = .misaligned11 w off d) ∧
    decode (packWord .write 0x00#8 d) = .wrFreqCmd d ∧
    decode (packWord .read 0x00#8 d) = .rdFreqCmd d ∧
    decode (packWord .write 0x04#8 d) = .wrPctCmd d ∧
    decode (packWord .read 0x04#8 d) = .rdPctCmd d ∧
    decode (packWord .write 0x08#8 d) = .wrPeriod d ∧
    decode (packWord .read 0x08#8 d) = .rdPeriod d ∧
    decode (packWord .write 0x0C#8 d) = .wrDuty d ∧
    decode (packWord .read 0x0C#8 d) = .rdDuty d ∧
    decode (packWord .write 0x10#8 d) = .wrDutyHi d ∧
    decode (packWord .read 0x10#8 d) = .rdDutyHi d ∧
    decode (packWord .write 0x14#8 d) = .wrDutyLo d ∧
    decode (packWord .read 0x14#8 d) = .rdDutyLo d ∧
    decode (packWord .write 0x18#8 d) = .wrStatus d ∧
    decode (packWord .read 0x18#8 d) = .rdStatus d ∧
    decode (packWord .write 0x1C#8 d) = .wrCfgOsc d ∧
    decode (packWord .read 0x1C#8 d) = .rdCfgOsc d ∧
    decode (packWord .write 0x20#8 d) = .wrCfgPrescale d ∧
    decode (packWord .read 0x20#8 d) = .rdCfgPrescale d ∧
    decode (packWord .write 0x24#8 d) = .wrCfgRes d ∧
    decode (packWord .read 0x24#8 d) = .rdCfgRes d ∧
    decode (packWord .write 0x28#8 d) = .wrCfgFscale d ∧
    decode (packWord .read 0x28#8 d) = .rdCfgFscale d ∧
    (off.toNat % 4 = 0 → off.toNat = 0x2C →
      decode (packWord w off d) = .reserved00101100 w off d) ∧
    (off.toNat % 4 = 0 → 0x30 ≤ off.toNat → off.toNat < 0x40 →
      decode (packWord w off d) = .reserved0011xx00 w off d) ∧
    (off.toNat % 4 = 0 → 0x40 ≤ off.toNat → off.toNat < 0x80 →
      decode (packWord w off d) = .reserved01xxxx00 w off d) ∧
    (off.toNat % 4 = 0 → 0x80 ≤ off.toNat →
      decode (packWord w off d) = .reserved1xxxxx00 w off d) ∧
    (∀ d' : Word, (decode (packWord w off d')).mnemonic = (decode (packWord w off d)).mnemonic)

/-- 30_encoding.md R49: the 29 rows of the opcode table are disjoint and cover every word, the
decoder picks the one row that matches, and the keys of each class are as many as the rule counts.
A key is a number below 512 with `W` above the 8 bits of `OFF`. -/
def Obligations.OpcodeRowsPartitionTheWords : Prop :=
  (∀ t : TransactionWord,
    (opcodeRows.filter fun r => r.matchesWord t).map OpRow.mnemonic = [(decode t).mnemonic]) ∧
  opcodeRows.length = 29 ∧ (opcodeRows.map OpRow.mnemonic).Nodup ∧
  let keys := (List.range 512).map fun k => decode (BitVec.ofNat 41 (k * 2 ^ 32))
  (keys.filter fun i => i.wField == .write && i.offField.toNat % 4 == 0 &&
    decide (i.offField.toNat ≤ 0x28)).length = 11 ∧
  (keys.filter fun i => i.cls == .command).length = 2 ∧
  (keys.filter fun i => i.cls == .read).length = 11 ∧
  (keys.filter fun i => i.cls == .busError).length = 9 + 384 + 106 ∧
  (keys.filter fun i => decide (i.offField.toNat % 4 ≠ 0)).length = 384 ∧
  (keys.filter fun i => i.offField.toNat % 4 == 0 &&
    decide (0x2C ≤ i.offField.toNat)).length = 106

/-- 30_encoding.md R54: the worked encodings, as text, as words and as decoded instructions. -/
def Obligations.WorkedEncodings : Prop :=
  (∀ c : Config,
    assembleLine c "WR FREQ_CMD, 104650" = .ok [0x100000198CA#41] ∧
    assembleLine c "WR PCT_CMD, 10" = .ok [0x1040000000A#41] ∧
    assembleLine c "RD PERIOD" = .ok [0x00800000000#41] ∧
    assembleLine c "RD STATUS" = .ok [0x01800000000#41] ∧
    assembleLine c "WR PERIOD, 5" = .ok [0x10800000005#41] ∧
    assembleLine c "RD @2C" = .ok [0x02C00000000#41] ∧
    assembleLine c "RD @09" = .ok [0x00900000000#41]) ∧
  decode 0x100000198CA#41 = .wrFreqCmd 104650#32 ∧
  decode 0x1040000000A#41 = .wrPctCmd 10#32 ∧
  decode 0x00800000000#41 = .rdPeriod 0#32 ∧
  decode 0x01800000000#41 = .rdStatus 0#32 ∧
  decode 0x10800000005#41 = .wrPeriod 5#32 ∧
  decode 0x02C00000000#41 = .reserved00101100 .read 0x2C#8 0#32 ∧
  decode 0x00900000000#41 = .misaligned01 .read 0x09#8 0#32

/-- 30_encoding.md R46: every transaction returns one response, `RESP` above `RDATA`, with `RDATA`
0 for every write and every response that is not `OKAY`. -/
def Obligations.EveryTransactionReturnsOneResponse : Prop :=
  (∀ (t : TransactionWord) (s u : State), exec (decode t) s = .next u →
    ∃ r : Response, u.responses = r :: s.responses ∧
      (wOf t = .write → r.rdata = 0#32) ∧ (r.resp ≠ .okay → r.rdata = 0#32)) ∧
  (∀ (t : TransactionWord) (s : State), ∃ u, exec (decode t) s = .next u) ∧
  (∀ r : Response, r.bits.extractLsb' 32 2 = r.resp.bits ∧ r.bits.extractLsb' 0 32 = r.rdata)

/-- 30_encoding.md R47: where operands come from, and that every other data word is ignored. -/
def Obligations.DataIsOperandOrIgnored : Prop :=
  (∀ (F : Word) (s : State), exec (decode (packWord .write 0x00#8 F)) s = execWrFreqCmd F s) ∧
  (∀ (pct : Word) (s : State), exec (decode (packWord .write 0x04#8 pct)) s = execWrPctCmd pct s) ∧
  (∀ s : State, s.init = true →
    exec (decode (packWord .write 0x04#8 0x00000164#32)) s =
      .next { s with
        err := .invalidPercentage, responses := ⟨.cmdErr, 0#32⟩ :: s.responses }) ∧
  (∀ (w : Dir) (off : Offset) (d d' : Word) (s : State),
    (w = .read ∨ (0x08 ≤ off.toNat ∧ off.toNat ≤ 0x28)) →
    exec (decode (packWord w off d)) s = exec (decode (packWord w off d')) s) ∧
  (∀ (c : Config) (h : Nat), h * c.freqScale < 2 ^ 32 →
    assemble c (.setf ⟨h, 0⟩) =
      .ok [packWord .write 0x00#8 (BitVec.ofNat 32 (h * c.freqScale))]) ∧
  assemble Config.defaults (.setf ⟨104650, 2⟩) = .ok [packWord .write 0x00#8 104650#32]

/-- 30_encoding.md R53: the pseudo-instructions. `SETF` never rounds. -/
def Obligations.PseudoInstructionsExpand : Prop :=
  ∀ (c : Config) (hz : Decimal) (pct : Nat) (ws : List TransactionWord),
    (assemble c (.setf hz) = .ok ws ↔
      ∃ F : Word, hz.mantissa * c.freqScale = F.toNat * 10 ^ hz.places ∧
        ws = [packWord .write 0x00#8 F]) ∧
    (assemble c (.setd pct) = .ok ws ↔
      ∃ d : Word, d.toNat = pct ∧ ws = [packWord .write 0x04#8 d]) ∧
    (assemble c (.retune hz pct) = .ok ws ↔
      ∃ a b, assemble c (.setf hz) = .ok [a] ∧ assemble c (.setd pct) = .ok [b] ∧ ws = [a, b]) ∧
    assemble c .check = .ok [packWord .read 0x18#8 0#32]

/-- 30_encoding.md R52: the text of a read and of a write of every register, the raw offset, the
refused value, and the comment of a response. Two clauses are the model's choice (log entry 9): that
lower-case text is refused, and that the comment writes the data as `0x` and eight upper-case
hexadecimal digits. -/
def Obligations.AssemblerTextOfRegisters : Prop :=
  (∀ (c : Config) (r : Reg),
    assembleLine c ("RD " ++ Machine.Reg.name r) = .ok [packWord .read r.offset 0#32] ∧
    assembleLine c ("WR " ++ Machine.Reg.name r ++ ", 0xFFFFFFFF ; all ones") =
      .ok [packWord .write r.offset 0xFFFFFFFF#32] ∧
    assembleLine c ("WR " ++ Machine.Reg.name r ++ ", 4294967296") = .error .valueTooLarge) ∧
  (∀ c : Config, assembleLine c "  ; only a comment" = .ok [] ∧
    assembleLine c "WR @FC, 1" = .ok [packWord .write 0xFC#8 1#32] ∧
    assembleLine c "rd period" = .error .notAStatement) ∧
  Response.comment ⟨.okay, 0x00000094#32⟩ = "; -> OKAY, 0x00000094".toList ∧
  Response.comment ⟨.busErr, 0#32⟩ = "; -> BUSERR, 0x00000000".toList

/-! ### The commands: 40_commands.md section 2 -/

/-- 40_commands.md R60: set_frequency, with its corner cases and its example. -/
def Obligations.SetFrequency : Prop :=
  ∀ (s : State) (F : Word),
    let N := s.cfg.oscHz * s.cfg.freqScale
    let D := 4 * s.cfg.prescale * F.toNat
    let q := (2 * N + D) / (2 * D)
    let rejected : State :=
      { s with err := .outOfRange, responses := ⟨.cmdErr, 0#32⟩ :: s.responses }
    decode (packWord .write 0x00#8 F) = .wrFreqCmd F ∧
    (1 ≤ F.toNat → D ≤ N → N ≤ D * 2 ^ s.cfg.res →
      ∃ t, exec (.wrFreqCmd F) s = .next t ∧
        t = { s with
          period := BitVec.ofNat s.cfg.res (q - 1)
          init := true, dutyCur := false, err := .noError
          responses := ⟨.okay, 0#32⟩ :: s.responses } ∧
        t.period.toNat = q - 1 ∧ 1 ≤ q ∧ q ≤ 2 ^ s.cfg.res ∧
        (2 * (N % D) = D → t.period.toNat = N / D) ∧
        (D = N → t.period.toNat = 0) ∧
        (N = D * 2 ^ s.cfg.res → t.period.toNat = 2 ^ s.cfg.res - 1) ∧
        exec (.wrFreqCmd F) t = .next { t with responses := ⟨.okay, 0#32⟩ :: t.responses }) ∧
    (F.toNat = 0 → exec (.wrFreqCmd F) s = .next rejected) ∧
    (N < D → exec (.wrFreqCmd F) s = .next rejected) ∧
    (D * 2 ^ s.cfg.res < N → exec (.wrFreqCmd F) s = .next rejected) ∧
    (¬ s.cfg.inRange F.toNat →
      exec (.wrFreqCmd F) s = .next rejected ∧
      exec (.wrFreqCmd F) rejected =
        .next { rejected with responses := ⟨.cmdErr, 0#32⟩ :: rejected.responses }) ∧
    (s.cfg.oscHz : ℚ) / (4 * 2 ^ s.cfg.res * s.cfg.prescale) <
      (s.cfg.oscHz : ℚ) / (4 * s.cfg.prescale) ∧
    ((∀ G : Word, ¬ s.cfg.inRange G.toNat) ↔
      (s.cfg.oscHz : ℚ) / (4 * s.cfg.prescale) < 1 / s.cfg.freqScale ∨
        (2 ^ 32 - 1 : ℚ) / s.cfg.freqScale <
          (s.cfg.oscHz : ℚ) / (4 * 2 ^ s.cfg.res * s.cfg.prescale)) ∧
    (s.cfg = Config.defaults → F = 104650#32 →
      ∃ t, exec (.wrFreqCmd F) s = .next t ∧ t.period.toNat = 148 ∧
        t.responses = ⟨.okay, 0#32⟩ :: s.responses)

/-- 40_commands.md R63: set_duty_cycle, with its corner cases and its example. -/
def Obligations.SetDutyCycle : Prop :=
  ∀ (s : State) (pct : Word),
    let d := (2 * pct.toNat * (s.period.toNat + 1) + 25) / 50
    let rejected (e : ErrCode) : State :=
      { s with err := e, responses := ⟨.cmdErr, 0#32⟩ :: s.responses }
    decode (packWord .write 0x04#8 pct) = .wrPctCmd pct ∧
    (s.init = true → pct.toNat ≤ 100 →
      ∃ t, exec (.wrPctCmd pct) s = .next t ∧
        t = { s with
          duty := BitVec.ofNat (s.cfg.res + 3) d, dutyCur := true, err := .noError
          responses := ⟨.okay, 0#32⟩ :: s.responses } ∧
        t.duty.toNat = d ∧
        (pct.toNat = 0 → t.duty.toNat = 0) ∧
        (pct.toNat = 100 → t.duty.toNat = 4 * (s.period.toNat + 1)) ∧
        (pct.toNat = 100 → s.period.toNat = 2 ^ s.cfg.res - 1 →
          t.duty.toNat = 2 ^ (s.cfg.res + 2)) ∧
        (s.period.toNat = 0 → t.duty.toNat ≤ 4) ∧
        (s.period.toNat = 148 → pct.toNat = 10 →
          t.duty.toNat = 60 ∧ t.dutyHi.toNat = 15 ∧ t.dutyLo.toNat = 0) ∧
        exec (.wrPctCmd pct) t = .next { t with responses := ⟨.okay, 0#32⟩ :: t.responses }) ∧
    (s.init = false →
      exec (.wrPctCmd pct) s = .next (rejected .notInitialized) ∧
      exec (.wrPctCmd pct) (rejected .notInitialized) =
        .next { rejected .notInitialized with
          responses := ⟨.cmdErr, 0#32⟩ :: (rejected .notInitialized).responses }) ∧
    (s.init = true → 100 < pct.toNat →
      exec (.wrPctCmd pct) s = .next (rejected .invalidPercentage) ∧
      exec (.wrPctCmd pct) (rejected .invalidPercentage) =
        .next { rejected .invalidPercentage with
          responses := ⟨.cmdErr, 0#32⟩ :: (rejected .invalidPercentage).responses })

/-- 40_commands.md R67: a failed command changes nothing but `STATUS.ERR`. -/
def Obligations.FailedCommandChangesOnlyErr : Prop :=
  ∀ (i : Instr) (s t : State), i.cls = .command → exec i s = .next t → t.err ≠ .noError →
    t = { s with err := t.err, responses := ⟨.cmdErr, 0#32⟩ :: s.responses }

/-- 20_memory.md R37: reads have no side effects, only the two commands change state, each is
idempotent when repeated at once, and they do not commute. -/
def Obligations.ReadsAreSilentAndCommandsIdempotent : Prop :=
  (∀ (s : State) (off : Offset) (d : Word), ∃ r,
    exec (decode (packWord .read off d)) s = .next { s with responses := r :: s.responses } ∧
    exec (decode (packWord .read off d)) { s with responses := r :: s.responses } =
      .next { s with responses := r :: r :: s.responses }) ∧
  (∀ (i : Instr) (s t : State), exec i s = .next t → t.block ≠ s.block →
    (∃ F, i = .wrFreqCmd F) ∨ (∃ p, i = .wrPctCmd p)) ∧
  (∀ (i : Instr) (s t : State), i.cls = .command → exec i s = .next t →
    ∃ r, t.responses = r :: s.responses ∧
      exec i t = .next { t with responses := r :: t.responses }) ∧
  (∃ (s : State) (F p : Word) (t t' u u' : State),
    exec (.wrFreqCmd F) s = .next t ∧ exec (.wrPctCmd p) t = .next u ∧
    exec (.wrPctCmd p) s = .next t' ∧ exec (.wrFreqCmd F) t' = .next u' ∧ u.block ≠ u'.block)

/-! ### The reads: 41_reads.md -/

/-- 41_reads.md R70: what every read has in common. Its data word has no effect. -/
def Obligations.EveryMappedReadAnswersOkay : Prop :=
  ∀ (i : Instr) (s : State), i.cls = .read →
    ∃ r, i.readTarget = some r ∧ i.wField = .read ∧ i.offField = r.offset ∧
      exec i s = .next { s with responses := ⟨.okay, s.readReg r⟩ :: s.responses } ∧
      (∀ d : Word, exec (decode (packWord .read r.offset d)) s = exec i s) ∧
      (s.readReg .period).toNat = s.period.toNat ∧ (s.readReg .duty).toNat = s.duty.toNat ∧
      (s.readReg .dutyHi).toNat = s.dutyHi.toNat ∧ (s.readReg .dutyLo).toNat = s.dutyLo.toNat ∧
      (s.readReg .status).toNat = s.statusBits.toNat ∧
      (s.readReg .freqCmd).toNat = 0 ∧ (s.readReg .pctCmd).toNat = 0 ∧
      (s.readReg .cfgOsc).toNat = s.cfg.oscHz ∧
      (s.readReg .cfgPrescale).toNat = s.cfg.prescale ∧
      (s.readReg .cfgRes).toNat = s.cfg.res ∧ (s.readReg .cfgFscale).toNat = s.cfg.freqScale

/-- 41_reads.md R71 and R72: the command registers read as 0 whatever was written to them. -/
def Obligations.CommandRegistersReadZero : Prop :=
  ∀ (data : Word) (s : State),
    decode (packWord .read 0x00#8 data) = .rdFreqCmd data ∧
    exec (.rdFreqCmd data) s = .next { s with responses := ⟨.okay, 0#32⟩ :: s.responses } ∧
    decode (packWord .read 0x04#8 data) = .rdPctCmd data ∧
    exec (.rdPctCmd data) s = .next { s with responses := ⟨.okay, 0#32⟩ :: s.responses }

/-- 41_reads.md R73. -/
def Obligations.RdPeriodReturnsPeriod : Prop :=
  ∀ (data : Word) (s : State),
    decode (packWord .read 0x08#8 data) = .rdPeriod data ∧
    (∃ v : Word, exec (.rdPeriod data) s =
        .next { s with responses := ⟨.okay, v⟩ :: s.responses } ∧
      v.toNat = s.period.toNat ∧ v.toNat ≤ 2 ^ s.cfg.res - 1 ∧
      (s.period.toNat = 148 → v = 0x00000094#32)) ∧
    (∀ (c : Config) (p : Platform), exec (.rdPeriod data) (State.resetOf c p) =
      .next { State.resetOf c p with responses := [⟨.okay, 0#32⟩] })

/-- 41_reads.md R74. -/
def Obligations.RdDutyReturnsDuty : Prop :=
  ∀ (data : Word) (s : State),
    decode (packWord .read 0x0C#8 data) = .rdDuty data ∧
    ∃ v : Word, exec (.rdDuty data) s =
        .next { s with responses := ⟨.okay, v⟩ :: s.responses } ∧
      v.toNat = s.duty.toNat ∧
      (s.duty.toNat = 2 ^ (s.cfg.res + 2) → v.toNat = 2 ^ (s.cfg.res + 2)) ∧
      (s.duty.toNat = 60 → v = 0x0000003C#32)

/-- 41_reads.md R75. -/
def Obligations.RdDutyHiReturnsHighBits : Prop :=
  ∀ (data : Word) (s : State),
    decode (packWord .read 0x10#8 data) = .rdDutyHi data ∧
    ∃ v : Word, exec (.rdDutyHi data) s =
        .next { s with responses := ⟨.okay, v⟩ :: s.responses } ∧
      v.toNat = s.duty.toNat / 4 ∧ v.toNat < 2 ^ (s.cfg.res + 1) ∧
      (s.duty.toNat = 1024 → v.toNat = 256) ∧ (s.duty.toNat = 60 → v = 0x0000000F#32)

/-- 41_reads.md R76. -/
def Obligations.RdDutyLoReturnsLowBits : Prop :=
  ∀ (data : Word) (s : State),
    decode (packWord .read 0x14#8 data) = .rdDutyLo data ∧
    ∃ v : Word, exec (.rdDutyLo data) s =
        .next { s with responses := ⟨.okay, v⟩ :: s.responses } ∧
      v.toNat = s.duty.toNat % 4 ∧ v.extractLsb' 2 30 = 0#30 ∧
      (s.duty.toNat = 77 → v = 0x00000001#32)

/-- 41_reads.md R77. -/
def Obligations.RdStatusReturnsStatus : Prop :=
  ∀ (data : Word) (s : State),
    decode (packWord .read 0x18#8 data) = .rdStatus data ∧
    (∃ v : Word, exec (.rdStatus data) s =
        .next { s with responses := ⟨.okay, v⟩ :: s.responses } ∧
      v.toNat = (if s.dutyCur then 8 else 0) + (if s.init then 4 else 0) + s.err.bits.toNat ∧
      (s.err = .noError → s.init = true → s.dutyCur = true → v = 0x0000000C#32)) ∧
    (∀ (c : Config) (p : Platform), exec (.rdStatus data) (State.resetOf c p) =
      .next { State.resetOf c p with responses := [⟨.okay, 0#32⟩] })

/-- 41_reads.md R78 to R81 and 10_state.md R23: the configuration registers read as the parameters,
with zeros above, cannot be written and never change. -/
def Obligations.ConfigurationReadsReturnParameters : Prop :=
  ∀ (data : Word) (s : State),
    let refused : Host.Outcome State Fault Refusal :=
      .next { s with responses := ⟨.busErr, 0#32⟩ :: s.responses }
    (decode (packWord .read 0x1C#8 data) = .rdCfgOsc data ∧
      ∃ v : Word, exec (.rdCfgOsc data) s =
          .next { s with responses := ⟨.okay, v⟩ :: s.responses } ∧
        v.toNat = s.cfg.oscHz ∧ (s.cfg = Config.defaults → v = 0x00989680#32)) ∧
    (decode (packWord .read 0x20#8 data) = .rdCfgPrescale data ∧
      ∃ v : Word, exec (.rdCfgPrescale data) s =
          .next { s with responses := ⟨.okay, v⟩ :: s.responses } ∧
        v.toNat = s.cfg.prescale ∧ v.extractLsb' 16 16 = 0#16 ∧
        (s.cfg = Config.defaults → v = 0x00000010#32)) ∧
    (decode (packWord .read 0x24#8 data) = .rdCfgRes data ∧
      ∃ v : Word, exec (.rdCfgRes data) s =
          .next { s with responses := ⟨.okay, v⟩ :: s.responses } ∧
        v.toNat = s.cfg.res ∧ v.extractLsb' 5 27 = 0#27 ∧
        (s.cfg.res = 8 → v = 0x00000008#32)) ∧
    (decode (packWord .read 0x28#8 data) = .rdCfgFscale data ∧
      ∃ v : Word, exec (.rdCfgFscale data) s =
          .next { s with responses := ⟨.okay, v⟩ :: s.responses } ∧
        v.toNat = s.cfg.freqScale ∧ v.extractLsb' 16 16 = 0#16 ∧
        (s.cfg = Config.defaults → v = 0x00000064#32)) ∧
    (exec (.wrCfgOsc data) s = refused ∧ exec (.wrCfgPrescale data) s = refused ∧
      exec (.wrCfgRes data) s = refused ∧ exec (.wrCfgFscale data) s = refused) ∧
    (∀ t, step s = .next t →
      t.readReg .cfgOsc = s.readReg .cfgOsc ∧ t.readReg .cfgPrescale = s.readReg .cfgPrescale ∧
      t.readReg .cfgRes = s.readReg .cfgRes ∧ t.readReg .cfgFscale = s.readReg .cfgFscale)

/-! ### Bus errors: 42_bus_errors.md -/

/-- 42_bus_errors.md R84: a write to a read-only register is a bus error and changes nothing. -/
def Obligations.ReadOnlyWritesAreBusErrors : Prop :=
  ∀ (v : Word) (s : State),
    let answer : Host.Outcome State Fault Refusal :=
      .next { s with responses := ⟨.busErr, 0#32⟩ :: s.responses }
    (decode (packWord .write 0x08#8 v) = .wrPeriod v ∧ exec (.wrPeriod v) s = answer) ∧
    (decode (packWord .write 0x0C#8 v) = .wrDuty v ∧ exec (.wrDuty v) s = answer) ∧
    (decode (packWord .write 0x10#8 v) = .wrDutyHi v ∧ exec (.wrDutyHi v) s = answer) ∧
    (decode (packWord .write 0x14#8 v) = .wrDutyLo v ∧ exec (.wrDutyLo v) s = answer) ∧
    (decode (packWord .write 0x18#8 v) = .wrStatus v ∧ exec (.wrStatus v) s = answer) ∧
    (decode (packWord .write 0x1C#8 v) = .wrCfgOsc v ∧ exec (.wrCfgOsc v) s = answer) ∧
    (decode (packWord .write 0x20#8 v) = .wrCfgPrescale v ∧ exec (.wrCfgPrescale v) s = answer) ∧
    (decode (packWord .write 0x24#8 v) = .wrCfgRes v ∧ exec (.wrCfgRes v) s = answer) ∧
    (decode (packWord .write 0x28#8 v) = .wrCfgFscale v ∧ exec (.wrCfgFscale v) s = answer) ∧
    packWord .write 0x08#8 5#32 = 0x10800000005#41

/-- 42_bus_errors.md R85: an access to a reserved offset is a bus error and changes nothing. -/
def Obligations.ReservedOffsetsAreBusErrors : Prop :=
  (∀ (w : Dir) (off : Offset) (d : Word) (s : State),
    let answer : Host.Outcome State Fault Refusal :=
      .next { s with responses := ⟨.busErr, 0#32⟩ :: s.responses }
    (off.toNat % 4 = 0 → 0x2C ≤ off.toNat → exec (decode (packWord w off d)) s = answer) ∧
    exec (.reserved00101100 w off d) s = answer ∧ exec (.reserved0011xx00 w off d) s = answer ∧
    exec (.reserved01xxxx00 w off d) s = answer ∧ exec (.reserved1xxxxx00 w off d) s = answer) ∧
  ((List.range 256).filter fun o => decide (o % 4 = 0 ∧ 0x2C ≤ o ∧ o ≤ 0xFC)).length = 53 ∧
  packWord .read 0x2C#8 0#32 = 0x02C00000000#41

/-- 42_bus_errors.md R86: a misaligned access is a bus error and changes nothing. -/
def Obligations.MisalignedAccessesAreBusErrors : Prop :=
  (∀ (w : Dir) (off : Offset) (d : Word) (s : State),
    let answer : Host.Outcome State Fault Refusal :=
      .next { s with responses := ⟨.busErr, 0#32⟩ :: s.responses }
    (off.toNat % 4 ≠ 0 → exec (decode (packWord w off d)) s = answer) ∧
    exec (.misaligned01 w off d) s = answer ∧ exec (.misaligned10 w off d) s = answer ∧
    exec (.misaligned11 w off d) s = answer) ∧
  ((List.range 256).filter fun o => decide (o % 4 ≠ 0)).length = 192 ∧
  packWord .read 0x09#8 0#32 = 0x00900000000#41

/-- 60_exceptions.md R92: exactly these transactions are bus errors, in any state and with any
data. -/
def Obligations.BusErrorExactlyForBadOffsetOrDirection : Prop :=
  ∀ (w : Dir) (off : Offset) (d : Word) (s t : State),
    exec (decode (packWord w off d)) s = .next t →
    (t.lastResponse = some ⟨.busErr, 0#32⟩ ↔
      off.toNat % 4 ≠ 0 ∨ (off.toNat % 4 = 0 ∧ 0x2C ≤ off.toNat) ∨
        (w = .write ∧ off.toNat % 4 = 0 ∧ 0x08 ≤ off.toNat ∧ off.toNat ≤ 0x28))

/-! ### Registers and flags: 10_state.md -/

/-- 10_state.md R16: `PERIOD` is written only by a `WR FREQ_CMD` without error. -/
def Obligations.PeriodWrittenOnlyBySetFrequency : Prop :=
  (∀ (i : Instr) (s t : State), exec i s = .next t →
    (∀ F, i = .wrFreqCmd F → s.cfg.inRange F.toNat →
      t.period.toNat = s.cfg.periodOf F.toNat) ∧
    ((¬ ∃ F, i = .wrFreqCmd F ∧ s.cfg.inRange F.toNat) → t.period.toNat = s.period.toNat)) ∧
  (∀ s : State, s.period.toNat ≤ 2 ^ s.cfg.res - 1 ∧
    (s.period.setWidth 32).toNat = s.period.toNat ∧
    (∀ data, exec (.rdPeriod data) s =
      .next { s with responses := ⟨.okay, s.period.setWidth 32⟩ :: s.responses }) ∧
    (∀ v, exec (.wrPeriod v) s =
      .next { s with responses := ⟨.busErr, 0#32⟩ :: s.responses })) ∧
  (∀ (c : Config) (p : Platform), (State.resetOf c p).period = 0#c.res)

/-- 10_state.md R17: what sets and what clears `STATUS.INIT`, and that it is 1 exactly when `PERIOD` holds a computed period: it starts 0
after reset, and while it is 1 some operand in range gives `PERIOD`. -/
def Obligations.InitSetBySetFrequencyClearedByReset : Prop :=
  (∀ (i : Instr) (s t : State), exec i s = .next t →
    (∀ F, i = .wrFreqCmd F → s.cfg.inRange F.toNat → t.init = true) ∧
    ((¬ ∃ F, i = .wrFreqCmd F ∧ s.cfg.inRange F.toNat) → t.init = s.init)) ∧
  (∀ s t : State, step s = .next t → s.init = true → t.init = false →
    ∃ rest, s.port = .assertReset :: rest ∨ ∃ w, s.port = .resetDuring w :: rest) ∧
  (∀ (s : State) (pct : Word), s.init = false → ∃ t, exec (.wrPctCmd pct) s = .next t ∧
    t.err = .notInitialized ∧ t.lastResponse = some ⟨.cmdErr, 0#32⟩) ∧
  (∀ (c : Config) (p : Platform), (State.resetOf c p).init = false) ∧
  (∀ s t : State, (s.init = true → s.PeriodComputed) → step s = .next t →
    (t.init = true → t.PeriodComputed))

/-- 10_state.md R18: `DUTY` is written only by a `WR PCT_CMD` without error. -/
def Obligations.DutyWrittenOnlyBySetDutyCycle : Prop :=
  (∀ (i : Instr) (s t : State), exec i s = .next t →
    (∀ p, i = .wrPctCmd p → s.init = true → p.toNat ≤ 100 →
      t.duty.toNat = (2 * p.toNat * (s.period.toNat + 1) + 25) / 50 ∧
        t.duty.toNat ≤ 4 * (s.period.toNat + 1)) ∧
    ((¬ ∃ p, i = .wrPctCmd p ∧ s.init = true ∧ p.toNat ≤ 100) →
      t.duty.toNat = s.duty.toNat)) ∧
  (∀ s : State, (s.duty.setWidth 32).toNat = s.duty.toNat ∧
    (∀ data, exec (.rdDuty data) s =
      .next { s with responses := ⟨.okay, s.duty.setWidth 32⟩ :: s.responses }) ∧
    (∀ v, exec (.wrDuty v) s =
      .next { s with responses := ⟨.busErr, 0#32⟩ :: s.responses })) ∧
  (∀ c : Config, 4 * (c.pmax + 1) = 2 ^ (c.res + 2) ∧ 2 ^ (c.res + 2) < 2 ^ (c.res + 3)) ∧
  (∀ (c : Config) (p : Platform), (State.resetOf c p).duty = 0#(c.res + 3))

/-- 10_state.md R19: the split of the duty value. -/
def Obligations.DutySplitsIntoHighAndLow : Prop :=
  ∀ s : State,
    s.dutyHi.toNat = s.duty.toNat / 4 ∧ s.dutyHi.toNat < 2 ^ (s.cfg.res + 1) ∧
    s.dutyLo.toNat = s.duty.toNat % 4 ∧
    s.duty.toNat = 4 * s.dutyHi.toNat + s.dutyLo.toNat ∧
    (s.duty.toNat = 1024 → s.dutyHi.toNat = 256 ∧ ¬ s.dutyHi.toNat < 2 ^ 8) ∧
    (s.cfg.res = 8 → s.duty.toNat < 1024 → s.dutyHi.toNat < 2 ^ 8)

/-- 10_state.md R20: the fields of `STATUS`. -/
def Obligations.StatusFieldLayout : Prop :=
  (∀ s : State,
    s.statusWord.extractLsb' 0 2 = s.err.bits ∧ s.statusWord.getLsbD 2 = s.init ∧
    s.statusWord.getLsbD 3 = s.dutyCur ∧ s.statusWord.extractLsb' 4 28 = 0#28 ∧
    (∀ data, exec (.rdStatus data) s =
      .next { s with responses := ⟨.okay, s.statusWord⟩ :: s.responses }) ∧
    (∀ v, exec (.wrStatus v) s =
      .next { s with responses := ⟨.busErr, 0#32⟩ :: s.responses })) ∧
  (∀ (c : Config) (p : Platform), (State.resetOf c p).statusWord = 0#32)

/-- 10_state.md R21: `STATUS.ERR` reports the latest performed command. -/
def Obligations.ErrReportsTheLastCommand : Prop :=
  (ErrCode.bits .noError = 0#2 ∧ ErrCode.bits .outOfRange = 1#2 ∧
    ErrCode.bits .notInitialized = 2#2 ∧ ErrCode.bits .invalidPercentage = 3#2) ∧
  ∀ (i : Instr) (s t : State), exec i s = .next t →
    (i.cls = .command →
      (t.err = .noError ∧ t.lastResponse = some ⟨.okay, 0#32⟩) ∨
      (t.err = .outOfRange ∧ t.lastResponse = some ⟨.cmdErr, 0#32⟩ ∧ ∃ F, i = .wrFreqCmd F) ∨
      (t.err = .notInitialized ∧ t.lastResponse = some ⟨.cmdErr, 0#32⟩ ∧ ∃ p, i = .wrPctCmd p) ∨
      (t.err = .invalidPercentage ∧ t.lastResponse = some ⟨.cmdErr, 0#32⟩ ∧
        ∃ p, i = .wrPctCmd p)) ∧
    (i.cls ≠ .command → t.err = s.err)

/-- 10_state.md R22: `STATUS.DUTY_CUR`. -/
def Obligations.DutyCurShowsACurrentDuty : Prop :=
  (∀ (i : Instr) (s t : State), exec i s = .next t →
    (∀ p, i = .wrPctCmd p → s.init = true → p.toNat ≤ 100 → t.dutyCur = true) ∧
    (∀ F, i = .wrFreqCmd F → s.cfg.inRange F.toNat → t.dutyCur = false) ∧
    ((¬ ∃ p, i = .wrPctCmd p ∧ s.init = true ∧ p.toNat ≤ 100) →
      (¬ ∃ F, i = .wrFreqCmd F ∧ s.cfg.inRange F.toNat) → t.dutyCur = s.dutyCur)) ∧
  (∀ (c : Config) (p : Platform), (State.resetOf c p).dutyCur = false)

/-- 10_state.md R28: no hidden state (log entries 1 and 4 say what State holds beside the block).
Two blocks that agree on every register a host can read are the same block, and what is on the host's
side never changes what a transaction does. -/
def Obligations.NoHiddenState : Prop :=
  (∀ s t : State, s.platform = t.platform → (∀ r, s.readReg r = t.readReg r) →
    s.block = t.block) ∧
  (∀ (i : Instr) (s t u v : State), s.block = t.block → exec i s = .next u → exec i t = .next v →
    u.block = v.block ∧ u.lastResponse = v.lastResponse ∧ u.port = s.port)

/-- 10_state.md R29: the reset values. -/
def Obligations.ResetValues : Prop :=
  ∀ (c : Config) (p : Platform),
    let s := State.resetOf c p
    s.period.toNat = 0 ∧ s.duty.toNat = 0 ∧ s.dutyHi.toNat = 0 ∧ s.dutyLo.toNat = 0 ∧
    s.err.bits = 0#2 ∧ s.init = false ∧ s.dutyCur = false ∧
    (s.readReg .cfgOsc).toNat = c.oscHz ∧ (s.readReg .cfgPrescale).toNat = c.prescale ∧
    (s.readReg .cfgRes).toNat = c.res ∧ (s.readReg .cfgFscale).toNat = c.freqScale

/-- 10_state.md R30 at reset, for every configuration; and for `State.reset`, which takes the
default one with the model's platform values (log entries 1 and 2). -/
def Obligations.InvariantsHoldAtReset : Prop :=
  (∀ (c : Config) (p : Platform), (State.resetOf c p).Inv) ∧ State.reset.Inv

/-- 10_state.md R30: every step keeps the invariants, from any state that has them. -/
def Obligations.EveryStepKeepsTheInvariants : Prop :=
  ∀ s t : State, s.Inv → step s = .next t → t.Inv

/-- 10_state.md R30: the invariants hold in every reachable state of every block. -/
def Obligations.InvariantsHoldWhenReachable : Prop :=
  ∀ s : State, s.Reachable →
    s.period.toNat ≤ s.cfg.pmax ∧
    (s.init = false → s.period.toNat = 0) ∧
    s.duty.toNat < 2 ^ s.cfg.dw ∧
    (s.dutyCur = true → s.init = true ∧ s.duty.toNat ≤ 4 * (s.period.toNat + 1)) ∧
    (s.dutyCur = true → ∃ p ≤ 100, s.duty.toNat = (2 * p * (s.period.toNat + 1) + 25) / 50)

/-! ### Errors and responses: 60_exceptions.md -/

/-- 60_exceptions.md R87: every error, exactly when it is raised, and all that it records. -/
def Obligations.ErrorsRaisedExactlyWhen : Prop :=
  ∀ (i : Instr) (s t : State), exec i s = .next t →
    ((t.lastResponse = some ⟨.cmdErr, 0#32⟩ ∧ t.err.bits = 1#2) ↔
      ∃ F, i = .wrFreqCmd F ∧ ¬ s.cfg.inRange F.toNat) ∧
    ((t.lastResponse = some ⟨.cmdErr, 0#32⟩ ∧ t.err.bits = 2#2) ↔
      ∃ p, i = .wrPctCmd p ∧ s.init = false) ∧
    ((t.lastResponse = some ⟨.cmdErr, 0#32⟩ ∧ t.err.bits = 3#2) ↔
      ∃ p, i = .wrPctCmd p ∧ s.init = true ∧ 100 < p.toNat) ∧
    ((t.lastResponse = some ⟨.busErr, 0#32⟩) ↔ i.cls = .busError) ∧
    (t.lastResponse = some ⟨.cmdErr, 0#32⟩ →
      t = { s with err := t.err, responses := ⟨.cmdErr, 0#32⟩ :: s.responses }) ∧
    (t.lastResponse = some ⟨.busErr, 0#32⟩ →
      t = { s with responses := ⟨.busErr, 0#32⟩ :: s.responses })

/-- 60_exceptions.md R91: the response codes and their meaning. -/
def Obligations.ResponseCodesMean : Prop :=
  (Resp.bits .okay = 0#2 ∧ Resp.bits .cmdErr = 1#2 ∧ Resp.bits .busErr = 2#2 ∧
    ∀ r : Resp, r.bits ≠ 3#2) ∧
  ∀ (i : Instr) (s t : State) (r : Response), exec i s = .next t → t.lastResponse = some r →
    (r.resp = .okay → i.cls ≠ .busError ∧ (i.cls = .command → t.err = .noError)) ∧
    (r.resp = .cmdErr → i.cls = .command ∧ t.err ≠ .noError ∧
      ({ t with err := s.err } : State).block = s.block) ∧
    (r.resp = .busErr → i.cls = .busError ∧ t.block = s.block)

/-- 60_exceptions.md R95: priority of errors. -/
def Obligations.ErrorPriority : Prop :=
  (∀ (w : Dir) (off : Offset) (d d' : Word) (s : State),
    (decode (packWord w off d)).cls = .busError →
    exec (decode (packWord w off d')) s =
      .next { s with responses := ⟨.busErr, 0#32⟩ :: s.responses }) ∧
  (∀ (s : State) (pct : Word), s.init = false → 100 < pct.toNat →
    exec (.wrPctCmd pct) s =
      .next { s with
        err := .notInitialized, responses := ⟨.cmdErr, 0#32⟩ :: s.responses }) ∧
  (∀ (s t : State) (F : Word), exec (.wrFreqCmd F) s = .next t →
    t.err = .noError ∨ t.err = .outOfRange)

/-- 60_exceptions.md R93 and 70_reset_and_hazards.md R114: the block never stops and never holds a
transaction: every run of any length goes on, and each transaction on the port is answered by the
very step that takes it. That an empty port is an idle step is the model's (log entry 7). -/
def Obligations.TheBlockNeverStops : Prop :=
  (∀ (s : State) (k : Nat), ∃ t, Sys2Proof.core.run k s = .next t) ∧
  (∀ (s : State) (w : TransactionWord) (rest : List HostEvent), s.port = .transaction w :: rest →
    ∃ t r, step s = .next t ∧ t.port = rest ∧ t.responses = r :: s.responses)

/-! ### Ordering: 20_memory.md -/

/-- 20_memory.md R36, 30_encoding.md R48: a step takes the next transaction off the port and runs
the instruction it decodes to. `withFetchWord` presents a word. The port form is the model's own
(log entry 3). -/
def Obligations.StepRunsTheDecodedInstruction : Prop :=
  (∀ (s : State) (w : TransactionWord) (rest : List HostEvent), s.port = .transaction w :: rest →
    step s = exec (decode w) { s with port := rest }) ∧
  (∀ (s : State) (i : Instr), i.wellFormed = true →
    step (s.withFetchWord 48 (encode i).toNat) = exec i s)

/-- 20_memory.md R40: the state after a list of transactions is the result of applying them in
order, whatever else is to follow on the port (the model's form of the order, log entry 3). -/
def Obligations.RunAppliesTransactionsInOrder : Prop :=
  ∀ (s : State) (ts : List TransactionWord) (rest : List HostEvent),
    Sys2Proof.core.run ts.length { s with port := ts.map HostEvent.transaction ++ rest } =
      .next { ts.foldl State.perform s with port := rest }

/-- 20_memory.md R40: a merge keeps each master's own order, and every order that does is the merge
of some schedule, for two masters and for any number of them. The schedules are the model's form of
the interconnect's choice (log entry 5). An order is given as a list of events, each marked with its
master, so that the events with one mark are that master's, in its own order: the merges of `masters`
are exactly those lists, and every marked list is the merge of its masters under some schedules. -/
def Obligations.EveryInterleavingIsAMerge : Prop :=
  (∀ (sched : List Bool) (a b : List HostEvent),
    a.Sublist (interleave sched a b) ∧ b.Sublist (interleave sched a b) ∧
      (interleave sched a b).Perm (a ++ b)) ∧
  (∀ (l : List (Bool × HostEvent)),
    interleave (l.map Prod.fst) ((l.filter fun e => e.1).map Prod.snd)
      ((l.filter fun e => !e.1).map Prod.snd) = l.map Prod.snd) ∧
  (∀ (scheds : List (List Bool)) (masters : List (List HostEvent)),
    (mergeMasters scheds masters).Perm masters.flatten ∧
      ∀ m ∈ masters, m.Sublist (mergeMasters scheds masters)) ∧
  (∀ (n : Nat) (l : List (Fin n × HostEvent)), ∃ scheds : List (List Bool),
    mergeMasters scheds
      ((List.finRange n).map fun k => (l.filter fun e => e.1 == k).map Prod.snd) =
        l.map Prod.snd) ∧
  (∀ (masters : List (List HostEvent)) (order : List HostEvent),
    (∃ scheds, mergeMasters scheds masters = order) ↔
      ∃ l : List (Fin masters.length × HostEvent), l.map Prod.snd = order ∧
        ∀ k, (l.filter fun e => e.1 == k).map Prod.snd = masters[k])

/-- 20_memory.md R32, R33 (log entry 8): the offset of an address in the window, and the access
that has no encoding. -/
def Obligations.AccessWordOfAnAddress : Prop :=
  ∀ (p : Platform) (w : Dir) (addr bytes : Nat) (d : Word),
    (bytes ≠ 4 → p.accessWord w addr bytes d = .error .subWord) ∧
    (∀ k < 256, addr = p.base + k →
      p.accessWord w addr 4 d = .ok (packWord w (BitVec.ofNat 8 k) d)) ∧
    (addr < p.base ∨ p.base + 256 ≤ addr → p.accessWord w addr 4 d = .error .outsideWindow)

/-- 00_scope.md R8 and 70_reset_and_hazards.md R114: no rule depends on `BASE` or `LATENCY`, which
the model carries in State (log entry 2). -/
def Obligations.NoRuleDependsOnThePlatform : Prop :=
  ∀ (s t : State) (p : Platform), step s = .next t →
    step { s with platform := p } = .next { t with platform := p }

/-! ### Reset and hazards: 70_reset_and_hazards.md -/

/-- 70_reset_and_hazards.md R106: reset, also while a transaction is under way. The cut-off
transaction's response is delivered or lost (a free value, log entry 6: both are allowed). That the
host keeps its earlier responses and its further events is the model's (log entries 3 and 4). -/
def Obligations.ResetFromAnyState : Prop :=
  (∀ (s : State) (rest : List HostEvent), s.port = .assertReset :: rest →
    ∃ t, step s = .next t ∧ t.block = State.resetOf s.cfg s.platform ∧
      t.port = rest ∧ t.responses = s.responses) ∧
  (∀ (s : State) (w : TransactionWord) (rest : List HostEvent),
    s.port = .resetDuring w :: rest →
    ∃ t u, step s = .next t ∧ exec (decode w) { s with port := rest } = .next u ∧
      t.block = State.resetOf s.cfg s.platform ∧ t.port = rest ∧
      (t.responses = s.responses ∨ t.responses = u.responses))

/-- 70_reset_and_hazards.md R110: a frequency change leaves the duty stale, and re-issuing the
percentage makes it current. -/
def Obligations.StaleDutyUntilReissued : Prop :=
  ∀ (s : State) (F pct : Word), s.cfg.inRange F.toNat →
    ∃ t, exec (.wrFreqCmd F) s = .next t ∧
      t.period.toNat = s.cfg.periodOf F.toNat ∧ t.duty.toNat = s.duty.toNat ∧
      t.dutyCur = false ∧
      (pct.toNat ≤ 100 →
        ∃ u, exec (.wrPctCmd pct) t = .next u ∧
          u.period.toNat = t.period.toNat ∧ u.duty.toNat = dutyOf pct.toNat t.period.toNat ∧
          u.dutyCur = true)

/-- 70_reset_and_hazards.md R111: the example of a stale duty above full scale, from the model's
`State.reset` (log entries 1 and 3). -/
def Obligations.StaleDutyCanBeOutOfScale : Prop :=
  ∃ t, Sys2Proof.core.run 3 { State.reset with
      port := [.transaction (packWord .write 0x00#8 104650#32),
        .transaction (packWord .write 0x04#8 100#32),
        .transaction (packWord .write 0x00#8 250000#32)] } = .next t ∧
    t.period.toNat = 62 ∧ t.duty.toNat = 596 ∧ t.dutyCur = false ∧
    4 * (t.period.toNat + 1) = 252

/-- 70_reset_and_hazards.md R113: the transaction after a command sees that command's result. -/
def Obligations.NextReadSeesTheCommand : Prop :=
  ∀ (s t : State) (F pct : Word) (data : Word),
    (s.cfg.inRange F.toNat → exec (.wrFreqCmd F) s = .next t →
      ∃ u v, exec (.rdPeriod data) t = .next u ∧ u.lastResponse = some ⟨.okay, v⟩ ∧
        v.toNat = s.cfg.periodOf F.toNat) ∧
    (s.init = true → pct.toNat ≤ 100 → exec (.wrPctCmd pct) s = .next t →
      ∃ u v, exec (.rdDuty data) t = .next u ∧ u.lastResponse = some ⟨.okay, v⟩ ∧
        v.toNat = dutyOf pct.toNat s.period.toNat)
end

