-- ==== Sys2Proof/Laws/Encoding.lean ====
section
/-! SUPPORT. The fields of a packed transaction word (30_encoding.md R45). -/

namespace Sys2Proof

/-- A bit of a packed word: `DATA` below, then `OFF`, then `W`. -/
theorem packWord_getLsbD (w : Dir) (off : Offset) (data : Word) (i : Nat) :
    (packWord w off data).getLsbD i =
      if i < 32 then data.getLsbD i
      else if i < 40 then off.getLsbD (i - 32) else w.bit.getLsbD (i - 40) := by
  have h : (packWord w off data).getLsbD i =
      BitVec.getLsbD (w := 1 + 8 + 32) (w.bit ++ off ++ data) i := rfl
  rw [h, BitVec.getLsbD_append, BitVec.getLsbD_append]
  grind

theorem Dir.ofBit_bit (w : Dir) : Dir.ofBit w.bit = w := by cases w <;> rfl

theorem wOf_packWord (w : Dir) (off : Offset) (data : Word) : wOf (packWord w off data) = w := by
  have h : (packWord w off data).extractLsb' 40 1 = w.bit := by
    ext i hi
    have h₁ : ¬ 40 + i < 32 := by omega
    simp [BitVec.getElem_extractLsb', packWord_getLsbD, h₁, BitVec.getLsbD_eq_getElem hi]
  rw [wOf, h, Dir.ofBit_bit]

theorem offOf_packWord (w : Dir) (off : Offset) (data : Word) :
    offOf (packWord w off data) = off := by
  ext i hi
  have : 32 + i < 40 := by omega
  simp [offOf, BitVec.getElem_extractLsb', packWord_getLsbD, this, BitVec.getLsbD_eq_getElem hi]

theorem dataOf_packWord (w : Dir) (off : Offset) (data : Word) :
    dataOf (packWord w off data) = data := by
  ext i hi
  simp [dataOf, BitVec.getElem_extractLsb', packWord_getLsbD, hi]

end Sys2Proof
end

