-- ==== Sys2Proof/Laws/Flags.lean ====
section
/-! SUPPORT. The bits of the `STATUS` word (10_state.md R20) and of a response (30_encoding.md R46). -/

namespace Sys2Proof.Machine

/-- A bit of the response word: `RDATA` below, `RESP` above. -/
theorem Response.bits_getLsbD (r : Response) (i : Nat) :
    r.bits.getLsbD i = if i < 32 then r.rdata.getLsbD i else r.resp.bits.getLsbD (i - 32) := by
  have h : r.bits.getLsbD i = BitVec.getLsbD (w := 2 + 32) (r.resp.bits ++ r.rdata) i := rfl
  rw [h, BitVec.getLsbD_append]

/-- The used bits of `STATUS` as a number. -/
theorem State.statusBits_toNat (s : State) :
    s.statusBits.toNat =
      (if s.dutyCur then 8 else 0) + (if s.init then 4 else 0) + s.err.bits.toNat := by
  unfold State.statusBits
  cases s.dutyCur <;> cases s.init <;> cases s.err <;> rfl

/-- `STATUS` reads as its used bits, the rest 0. -/
theorem State.statusWord_toNat (s : State) : s.statusWord.toNat = s.statusBits.toNat := by
  have := s.statusBits.isLt
  simp only [State.statusWord, BitVec.toNat_setWidth]
  omega

end Sys2Proof.Machine
end

