-- ==== Sys2Proof/Laws/Operands.lean ====
section
/-! SUPPORT. What the shared numeric operations can answer, said once as bounds without division. -/

namespace Sys2Proof

/-- The rounded quotient is the one natural number `q` with `2*b*q ≤ 2*a + b < 2*b*(q + 1)`. -/
theorem roundHalfUpDiv_bounds (a b : Nat) (hb : 0 < b) :
    2 * b * roundHalfUpDiv a b ≤ 2 * a + b ∧ 2 * a + b < 2 * b * (roundHalfUpDiv a b + 1) := by
  refine ⟨Nat.mul_div_le _ _, ?_⟩
  exact Nat.lt_mul_div_succ _ (by omega)

/-- The duty value is the one natural number `d` with `50*d ≤ 2*pct*(P + 1) + 25 < 50*d + 50`. -/
theorem dutyOf_bounds (pct period : Nat) :
    50 * dutyOf pct period ≤ 2 * pct * (period + 1) + 25 ∧
      2 * pct * (period + 1) + 25 < 50 * dutyOf pct period + 50 := by
  unfold dutyOf
  omega

/-- The scaled oscillator frequency is at least 1. -/
theorem Config.scaledOsc_pos (c : Config) : 0 < c.scaledOsc :=
  Nat.mul_pos c.oscHz_legal.1 c.freqScale_legal.1

/-- The divisor is 0 only for the operand 0. -/
theorem Config.divisor_pos (c : Config) (f : Nat) (hf : 1 ≤ f) : 0 < c.divisor f :=
  Nat.mul_pos (Nat.mul_pos (by decide) c.prescale_legal.1) hf

end Sys2Proof
end

