-- ==== Sys2Proof/Laws/State.lean ====
section
/-! SUPPORT. One lemma per field per update of `State`, so that no proof unfolds a record update. -/

namespace Sys2Proof.Machine

variable (s : State)

/-! ### `State.setPeriod` -/

@[simp] theorem State.setPeriod_cfg (v : Nat) : (s.setPeriod v).cfg = s.cfg := rfl
@[simp] theorem State.setPeriod_platform (v : Nat) : (s.setPeriod v).platform = s.platform := rfl
@[simp] theorem State.setPeriod_period (v : Nat) : (s.setPeriod v).period = BitVec.ofNat s.cfg.res v := rfl
@[simp] theorem State.setPeriod_duty (v : Nat) : (s.setPeriod v).duty = s.duty := rfl
@[simp] theorem State.setPeriod_err (v : Nat) : (s.setPeriod v).err = s.err := rfl
@[simp] theorem State.setPeriod_init (v : Nat) : (s.setPeriod v).init = s.init := rfl
@[simp] theorem State.setPeriod_dutyCur (v : Nat) : (s.setPeriod v).dutyCur = s.dutyCur := rfl
@[simp] theorem State.setPeriod_port (v : Nat) : (s.setPeriod v).port = s.port := rfl
@[simp] theorem State.setPeriod_responses (v : Nat) : (s.setPeriod v).responses = s.responses := rfl
@[simp] theorem State.setPeriod_cutOffs (v : Nat) : (s.setPeriod v).cutOffs = s.cutOffs := rfl

/-! ### `State.setDuty` -/

@[simp] theorem State.setDuty_cfg (v : Nat) : (s.setDuty v).cfg = s.cfg := rfl
@[simp] theorem State.setDuty_platform (v : Nat) : (s.setDuty v).platform = s.platform := rfl
@[simp] theorem State.setDuty_period (v : Nat) : (s.setDuty v).period = s.period := rfl
@[simp] theorem State.setDuty_duty (v : Nat) : (s.setDuty v).duty = BitVec.ofNat (s.cfg.res + 3) v := rfl
@[simp] theorem State.setDuty_err (v : Nat) : (s.setDuty v).err = s.err := rfl
@[simp] theorem State.setDuty_init (v : Nat) : (s.setDuty v).init = s.init := rfl
@[simp] theorem State.setDuty_dutyCur (v : Nat) : (s.setDuty v).dutyCur = s.dutyCur := rfl
@[simp] theorem State.setDuty_port (v : Nat) : (s.setDuty v).port = s.port := rfl
@[simp] theorem State.setDuty_responses (v : Nat) : (s.setDuty v).responses = s.responses := rfl
@[simp] theorem State.setDuty_cutOffs (v : Nat) : (s.setDuty v).cutOffs = s.cutOffs := rfl

/-! ### `State.setErr` -/

@[simp] theorem State.setErr_cfg (e : ErrCode) : (s.setErr e).cfg = s.cfg := rfl
@[simp] theorem State.setErr_platform (e : ErrCode) : (s.setErr e).platform = s.platform := rfl
@[simp] theorem State.setErr_period (e : ErrCode) : (s.setErr e).period = s.period := rfl
@[simp] theorem State.setErr_duty (e : ErrCode) : (s.setErr e).duty = s.duty := rfl
@[simp] theorem State.setErr_err (e : ErrCode) : (s.setErr e).err = e := rfl
@[simp] theorem State.setErr_init (e : ErrCode) : (s.setErr e).init = s.init := rfl
@[simp] theorem State.setErr_dutyCur (e : ErrCode) : (s.setErr e).dutyCur = s.dutyCur := rfl
@[simp] theorem State.setErr_port (e : ErrCode) : (s.setErr e).port = s.port := rfl
@[simp] theorem State.setErr_responses (e : ErrCode) : (s.setErr e).responses = s.responses := rfl
@[simp] theorem State.setErr_cutOffs (e : ErrCode) : (s.setErr e).cutOffs = s.cutOffs := rfl

/-! ### `State.flagsAfterSetFrequency` -/

@[simp] theorem State.flagsAfterSetFrequency_cfg : (s.flagsAfterSetFrequency).cfg = s.cfg := rfl
@[simp] theorem State.flagsAfterSetFrequency_platform : (s.flagsAfterSetFrequency).platform = s.platform := rfl
@[simp] theorem State.flagsAfterSetFrequency_period : (s.flagsAfterSetFrequency).period = s.period := rfl
@[simp] theorem State.flagsAfterSetFrequency_duty : (s.flagsAfterSetFrequency).duty = s.duty := rfl
@[simp] theorem State.flagsAfterSetFrequency_err : (s.flagsAfterSetFrequency).err = .noError := rfl
@[simp] theorem State.flagsAfterSetFrequency_init : (s.flagsAfterSetFrequency).init = true := rfl
@[simp] theorem State.flagsAfterSetFrequency_dutyCur : (s.flagsAfterSetFrequency).dutyCur = false := rfl
@[simp] theorem State.flagsAfterSetFrequency_port : (s.flagsAfterSetFrequency).port = s.port := rfl
@[simp] theorem State.flagsAfterSetFrequency_responses : (s.flagsAfterSetFrequency).responses = s.responses := rfl
@[simp] theorem State.flagsAfterSetFrequency_cutOffs : (s.flagsAfterSetFrequency).cutOffs = s.cutOffs := rfl

/-! ### `State.flagsAfterSetDuty` -/

@[simp] theorem State.flagsAfterSetDuty_cfg : (s.flagsAfterSetDuty).cfg = s.cfg := rfl
@[simp] theorem State.flagsAfterSetDuty_platform : (s.flagsAfterSetDuty).platform = s.platform := rfl
@[simp] theorem State.flagsAfterSetDuty_period : (s.flagsAfterSetDuty).period = s.period := rfl
@[simp] theorem State.flagsAfterSetDuty_duty : (s.flagsAfterSetDuty).duty = s.duty := rfl
@[simp] theorem State.flagsAfterSetDuty_err : (s.flagsAfterSetDuty).err = .noError := rfl
@[simp] theorem State.flagsAfterSetDuty_init : (s.flagsAfterSetDuty).init = s.init := rfl
@[simp] theorem State.flagsAfterSetDuty_dutyCur : (s.flagsAfterSetDuty).dutyCur = true := rfl
@[simp] theorem State.flagsAfterSetDuty_port : (s.flagsAfterSetDuty).port = s.port := rfl
@[simp] theorem State.flagsAfterSetDuty_responses : (s.flagsAfterSetDuty).responses = s.responses := rfl
@[simp] theorem State.flagsAfterSetDuty_cutOffs : (s.flagsAfterSetDuty).cutOffs = s.cutOffs := rfl

/-! ### `State.respond` -/

@[simp] theorem State.respond_cfg (r : Resp) (d : Word) : (s.respond r d).cfg = s.cfg := rfl
@[simp] theorem State.respond_platform (r : Resp) (d : Word) : (s.respond r d).platform = s.platform := rfl
@[simp] theorem State.respond_period (r : Resp) (d : Word) : (s.respond r d).period = s.period := rfl
@[simp] theorem State.respond_duty (r : Resp) (d : Word) : (s.respond r d).duty = s.duty := rfl
@[simp] theorem State.respond_err (r : Resp) (d : Word) : (s.respond r d).err = s.err := rfl
@[simp] theorem State.respond_init (r : Resp) (d : Word) : (s.respond r d).init = s.init := rfl
@[simp] theorem State.respond_dutyCur (r : Resp) (d : Word) : (s.respond r d).dutyCur = s.dutyCur := rfl
@[simp] theorem State.respond_port (r : Resp) (d : Word) : (s.respond r d).port = s.port := rfl
@[simp] theorem State.respond_responses (r : Resp) (d : Word) : (s.respond r d).responses = ⟨r, d⟩ :: s.responses := rfl
@[simp] theorem State.respond_cutOffs (r : Resp) (d : Word) : (s.respond r d).cutOffs = s.cutOffs := rfl

/-! ### `State.applyReset` -/

@[simp] theorem State.applyReset_cfg : (s.applyReset).cfg = s.cfg := rfl
@[simp] theorem State.applyReset_platform : (s.applyReset).platform = s.platform := rfl
@[simp] theorem State.applyReset_period : (s.applyReset).period = 0#s.cfg.res := rfl
@[simp] theorem State.applyReset_duty : (s.applyReset).duty = 0#(s.cfg.res + 3) := rfl
@[simp] theorem State.applyReset_err : (s.applyReset).err = .noError := rfl
@[simp] theorem State.applyReset_init : (s.applyReset).init = false := rfl
@[simp] theorem State.applyReset_dutyCur : (s.applyReset).dutyCur = false := rfl
@[simp] theorem State.applyReset_port : (s.applyReset).port = s.port := rfl
@[simp] theorem State.applyReset_responses : (s.applyReset).responses = s.responses := rfl
@[simp] theorem State.applyReset_cutOffs : (s.applyReset).cutOffs = s.cutOffs := rfl

/-! ### The two ways a transaction ends in an error -/

@[simp] theorem State.raiseBusError_responses :
    s.raiseBusError.responses = ⟨.busErr, 0#32⟩ :: s.responses := rfl
@[simp] theorem State.raiseCmdError_responses (e : ErrCode) :
    (s.raiseCmdError e).responses = ⟨.cmdErr, 0#32⟩ :: s.responses := rfl
@[simp] theorem State.raiseCmdError_err (e : ErrCode) : (s.raiseCmdError e).err = e := rfl

end Sys2Proof.Machine
end

