-- ==== Sys2Proof/Laws/Ops.lean ====
section
/-! SUPPORT. What each shared operation, each instruction and each step can do, said once. -/

namespace Sys2Proof.Machine

/-- Everything `set_frequency` can do. -/
theorem setFrequency_cases (s : State) (f : Nat) :
    (s.cfg.inRange f ∧
      s.setFrequency f = { s with
        period := BitVec.ofNat s.cfg.res (s.cfg.periodOf f)
        init := true, dutyCur := false, err := .noError
        responses := ⟨.okay, 0#32⟩ :: s.responses }) ∨
    (¬ s.cfg.inRange f ∧
      s.setFrequency f = { s with
        err := .outOfRange, responses := ⟨.cmdErr, 0#32⟩ :: s.responses }) := by
  by_cases h : s.cfg.inRange f
  · exact .inl ⟨h, if_pos h⟩
  · exact .inr ⟨h, if_neg h⟩

/-- Everything `set_duty_cycle` can do. -/
theorem setDutyCycle_cases (s : State) (pct : Nat) :
    (s.init = true ∧ pct ≤ 100 ∧
      s.setDutyCycle pct = { s with
        duty := BitVec.ofNat (s.cfg.res + 3) (dutyOf pct s.period.toNat)
        dutyCur := true, err := .noError
        responses := ⟨.okay, 0#32⟩ :: s.responses }) ∨
    (s.init = false ∧
      s.setDutyCycle pct = { s with
        err := .notInitialized, responses := ⟨.cmdErr, 0#32⟩ :: s.responses }) ∨
    (s.init = true ∧ ¬ pct ≤ 100 ∧
      s.setDutyCycle pct = { s with
        err := .invalidPercentage, responses := ⟨.cmdErr, 0#32⟩ :: s.responses }) := by
  by_cases hi : s.init = false
  · exact .inr (.inl ⟨hi, if_pos hi⟩)
  · have ht : s.init = true := by simpa using hi
    by_cases hp : pct ≤ 100
    · exact .inl ⟨ht, hp, (if_neg hi).trans (if_pos hp)⟩
    · exact .inr (.inr ⟨ht, hp, (if_neg hi).trans (if_neg hp)⟩)

/-- A read leaves everything but the responses. -/
theorem performRead_eq (s : State) (r : Reg) :
    s.performRead r = { s with responses := ⟨.okay, s.readReg r⟩ :: s.responses } := rfl

/-- A bus error leaves everything but the responses. -/
theorem raiseBusError_eq (s : State) :
    s.raiseBusError = { s with responses := ⟨.busErr, 0#32⟩ :: s.responses } := rfl

/-- A command error leaves everything but `ERR` and the responses. -/
theorem raiseCmdError_eq (s : State) (e : ErrCode) :
    s.raiseCmdError e = { s with err := e, responses := ⟨.cmdErr, 0#32⟩ :: s.responses } := rfl

/-- Everything an instruction can do: a command, a read of its register, or a bus error. -/
theorem exec_cases (i : Instr) (s : State) :
    (∃ f, i = .wrFreqCmd f ∧ exec i s = .next (s.setFrequency f.toNat)) ∨
    (∃ p, i = .wrPctCmd p ∧ exec i s = .next (s.setDutyCycle p.toNat)) ∨
    (∃ r, i.cls = .read ∧ i.readTarget = some r ∧ exec i s = .next (s.performRead r)) ∨
    (i.cls = .busError ∧ exec i s = .next s.raiseBusError) := by
  cases i
  case wrFreqCmd f => exact .inl ⟨f, rfl, rfl⟩
  case wrPctCmd p => exact .inr (.inl ⟨p, rfl, rfl⟩)
  all_goals first
    | exact .inr (.inr (.inl ⟨_, rfl, rfl, rfl⟩))
    | exact .inr (.inr (.inr ⟨rfl, rfl⟩))

/-- The step that performs a transaction. -/
theorem step_transaction (s : State) (t : TransactionWord) (rest : List HostEvent)
    (h : s.port = .transaction t :: rest) :
    step s = exec (decode t) { s with port := rest } := by
  simp only [step, h]

/-- The step on an empty port. -/
theorem step_idle (s : State) (h : s.port = []) : step s = .next s := by
  simp only [step, h]

/-- The step that asserts reset. -/
theorem step_assertReset (s : State) (rest : List HostEvent) (h : s.port = .assertReset :: rest) :
    step s = .next { s with port := rest }.applyReset := by
  simp only [step, h]

/-- The step in which reset cuts a transaction off. -/
theorem step_resetDuring (s : State) (t : TransactionWord) (rest : List HostEvent)
    (h : s.port = .resetDuring t :: rest) :
    step s = State.applyResetDuring { s with port := rest } (exec (decode t) { s with port := rest }) := by
  simp only [step, h]

/-- What a reset that cuts off a transaction leaves, when performing the transaction gives `p`. -/
theorem applyResetDuring_next (s p : State) :
    State.applyResetDuring s (.next p) = .next { s.applyReset with
      responses := bif Config.responseSurvivesReset s.cutOffs then p.responses else s.responses
      cutOffs := s.cutOffs + 1 } := rfl

/-- Everything a step can do: stay where nothing is on the port, perform a transaction, apply reset,
or apply reset while a transaction is under way. -/
theorem step_cases {s t : State} (h : step s = .next t) :
    (s.port = [] ∧ t = s) ∨
    (∃ w rest, s.port = .transaction w :: rest ∧
      exec (decode w) { s with port := rest } = .next t) ∨
    (∃ rest, s.port = .assertReset :: rest ∧ t = { s with port := rest }.applyReset) ∨
    (∃ w rest p, s.port = .resetDuring w :: rest ∧
      exec (decode w) { s with port := rest } = .next p ∧
      t = { { s with port := rest }.applyReset with
        responses := bif Config.responseSurvivesReset s.cutOffs then p.responses else s.responses
        cutOffs := s.cutOffs + 1 }) := by
  rcases hp : s.port with _ | ⟨⟨w⟩ | _ | ⟨w⟩, rest⟩
  · rw [step_idle s hp] at h
    cases h
    exact .inl ⟨rfl, rfl⟩
  · rw [step_transaction s w rest hp] at h
    exact .inr (.inl ⟨w, rest, rfl, h⟩)
  · rw [step_assertReset s rest hp] at h
    cases h
    exact .inr (.inr (.inl ⟨rest, rfl, rfl⟩))
  · rw [step_resetDuring s w rest hp] at h
    cases he : exec (decode w) { s with port := rest } with
    | next p =>
      rw [he, applyResetDuring_next] at h
      cases h
      exact .inr (.inr (.inr ⟨w, rest, p, rfl, he, rfl⟩))
    | fault e => cases e
    | refused e => rw [he] at h; cases h

/-- Everything a merge of two lists can do: its elements can be marked with where each came from, and
the elements with one mark are that list, in order. -/
theorem interleave_cases {α : Type} (sched : List Bool) (a b : List α) :
    ∃ l : List (Bool × α), l.map Prod.snd = interleave sched a b ∧
      (l.filter fun e => e.1).map Prod.snd = a ∧ (l.filter fun e => !e.1).map Prod.snd = b := by
  fun_induction interleave sched a b with
  | case1 a b =>
    refine ⟨a.map (Prod.mk true) ++ b.map (Prod.mk false), ?_, ?_, ?_⟩ <;>
      simp [List.filter_map, Function.comp_def]
  | case2 sched x a b ih =>
    obtain ⟨l, h, ha, hb⟩ := ih
    exact ⟨(true, x) :: l, by simp [h], by simp [ha], by simp [hb]⟩
  | case3 sched b ih => exact ih
  | case4 sched a y b ih =>
    obtain ⟨l, h, ha, hb⟩ := ih
    exact ⟨(false, y) :: l, by simp [h], by simp [ha], by simp [hb]⟩
  | case5 sched a ih => exact ih

/-- The merge of a first master and the others, whether or not a schedule is left for it. -/
theorem mergeMasters_cons {α : Type} (scheds : List (List Bool)) (m : List α) (ms : List (List α)) :
    mergeMasters scheds (m :: ms) =
      interleave (scheds.headD []) m (mergeMasters scheds.tail ms) := by
  cases scheds <;> rfl

end Sys2Proof.Machine
end

