-- ==== Sys2Proof/Laws/PerInstr.lean ====
section
/-! SUPPORT. Per-instruction facts about the encoding: the fields of an instruction's word are the
fields its row gives it. -/

namespace Sys2Proof.Laws.EncodeFields

/-- The three fields of the word of `i` (30_encoding.md R45) are the row's `W`, `OFF` and `DATA`. -/
def Statement (i : Instr) : Prop :=
  wOf (encode i) = i.wField ∧ offOf (encode i) = i.offField ∧ dataOf (encode i) = i.dataField

/-- The fields of a packed word, for any instruction. -/
theorem of_packWord (i : Instr) : Statement i :=
  ⟨wOf_packWord _ _ _, offOf_packWord _ _ _, dataOf_packWord _ _ _⟩

theorem wrFreqCmd (data : Word) : Statement (.wrFreqCmd data) := of_packWord _
theorem wrPctCmd (data : Word) : Statement (.wrPctCmd data) := of_packWord _
theorem rdFreqCmd (data : Word) : Statement (.rdFreqCmd data) := of_packWord _
theorem rdPctCmd (data : Word) : Statement (.rdPctCmd data) := of_packWord _
theorem rdPeriod (data : Word) : Statement (.rdPeriod data) := of_packWord _
theorem rdDuty (data : Word) : Statement (.rdDuty data) := of_packWord _
theorem rdDutyHi (data : Word) : Statement (.rdDutyHi data) := of_packWord _
theorem rdDutyLo (data : Word) : Statement (.rdDutyLo data) := of_packWord _
theorem rdStatus (data : Word) : Statement (.rdStatus data) := of_packWord _
theorem rdCfgOsc (data : Word) : Statement (.rdCfgOsc data) := of_packWord _
theorem rdCfgPrescale (data : Word) : Statement (.rdCfgPrescale data) := of_packWord _
theorem rdCfgRes (data : Word) : Statement (.rdCfgRes data) := of_packWord _
theorem rdCfgFscale (data : Word) : Statement (.rdCfgFscale data) := of_packWord _
theorem wrPeriod (data : Word) : Statement (.wrPeriod data) := of_packWord _
theorem wrDuty (data : Word) : Statement (.wrDuty data) := of_packWord _
theorem wrDutyHi (data : Word) : Statement (.wrDutyHi data) := of_packWord _
theorem wrDutyLo (data : Word) : Statement (.wrDutyLo data) := of_packWord _
theorem wrStatus (data : Word) : Statement (.wrStatus data) := of_packWord _
theorem wrCfgOsc (data : Word) : Statement (.wrCfgOsc data) := of_packWord _
theorem wrCfgPrescale (data : Word) : Statement (.wrCfgPrescale data) := of_packWord _
theorem wrCfgRes (data : Word) : Statement (.wrCfgRes data) := of_packWord _
theorem wrCfgFscale (data : Word) : Statement (.wrCfgFscale data) := of_packWord _
theorem misaligned01 (w : Dir) (off : Offset) (data : Word) : Statement (.misaligned01 w off data) :=
  of_packWord _
theorem misaligned10 (w : Dir) (off : Offset) (data : Word) : Statement (.misaligned10 w off data) :=
  of_packWord _
theorem misaligned11 (w : Dir) (off : Offset) (data : Word) : Statement (.misaligned11 w off data) :=
  of_packWord _
theorem reserved00101100 (w : Dir) (off : Offset) (data : Word) : Statement (.reserved00101100 w off data) :=
  of_packWord _
theorem reserved0011xx00 (w : Dir) (off : Offset) (data : Word) : Statement (.reserved0011xx00 w off data) :=
  of_packWord _
theorem reserved01xxxx00 (w : Dir) (off : Offset) (data : Word) : Statement (.reserved01xxxx00 w off data) :=
  of_packWord _
theorem reserved1xxxxx00 (w : Dir) (off : Offset) (data : Word) : Statement (.reserved1xxxxx00 w off data) :=
  of_packWord _

end Sys2Proof.Laws.EncodeFields
end

