-- ==== Sys2Proof/Tests/Slice0.lean ====
section
/-! SUPPORT. Tests whose expected values come from the spec (95_test_vectors.md unless said
otherwise), the smoke tests of `WellFormed`, and for every statement with hypotheses a concrete
witness that meets them. -/

namespace Sys2Proof.Tests
open Sys2Proof Sys2Proof.Machine

/-! ### Well-formedness: an ill-formed term for each check -/

theorem test_wellFormed_refuses_misaligned01 :
    (Instr.misaligned01 .read 0x02#8 0#32).wellFormed = false := by decide

theorem test_wellFormed_refuses_misaligned10 :
    (Instr.misaligned10 .read 0x03#8 0#32).wellFormed = false := by decide

theorem test_wellFormed_refuses_misaligned11 :
    (Instr.misaligned11 .write 0x01#8 0#32).wellFormed = false := by decide

theorem test_wellFormed_refuses_reserved00101100 :
    (Instr.reserved00101100 .read 0x28#8 0#32).wellFormed = false := by decide

theorem test_wellFormed_refuses_reserved0011xx00 :
    (Instr.reserved0011xx00 .read 0x2C#8 0#32).wellFormed = false ∧
    (Instr.reserved0011xx00 .read 0x31#8 0#32).wellFormed = false := by decide

theorem test_wellFormed_refuses_reserved01xxxx00 :
    (Instr.reserved01xxxx00 .read 0x80#8 0#32).wellFormed = false ∧
    (Instr.reserved01xxxx00 .read 0x42#8 0#32).wellFormed = false := by decide

theorem test_wellFormed_refuses_reserved1xxxxx00 :
    (Instr.reserved1xxxxx00 .write 0x7C#8 0#32).wellFormed = false ∧
    (Instr.reserved1xxxxx00 .write 0x83#8 0#32).wellFormed = false := by decide

/-! ### Decoding: one word of every constructor, from sections 1 and 2 of 95_test_vectors.md -/

theorem test_decode_wrFreqCmd :
    decodeTableWord 48 0x100000198CA = some (.wrFreqCmd 104650#32) ∧
    (encode (.wrFreqCmd 104650#32)).toNat = 0x100000198CA := by decide

theorem test_decode_wrPctCmd :
    decodeTableWord 48 0x1040000000A = some (.wrPctCmd 10#32) ∧
    (encode (.wrPctCmd 10#32)).toNat = 0x1040000000A := by decide

theorem test_decode_rdFreqCmd :
    decodeTableWord 48 0x00000000000 = some (.rdFreqCmd 0#32) ∧
    (encode (.rdFreqCmd 0#32)).toNat = 0x00000000000 := by decide

theorem test_decode_rdPctCmd :
    decodeTableWord 48 0x00400000000 = some (.rdPctCmd 0#32) ∧
    (encode (.rdPctCmd 0#32)).toNat = 0x00400000000 := by decide

theorem test_decode_rdPeriod :
    decodeTableWord 48 0x00800000000 = some (.rdPeriod 0#32) ∧
    (encode (.rdPeriod 0#32)).toNat = 0x00800000000 := by decide

theorem test_decode_rdDuty :
    decodeTableWord 48 0x00C00000000 = some (.rdDuty 0#32) ∧
    (encode (.rdDuty 0#32)).toNat = 0x00C00000000 := by decide

theorem test_decode_rdDutyHi :
    decodeTableWord 48 0x01000000000 = some (.rdDutyHi 0#32) ∧
    (encode (.rdDutyHi 0#32)).toNat = 0x01000000000 := by decide

theorem test_decode_rdDutyLo :
    decodeTableWord 48 0x01400000000 = some (.rdDutyLo 0#32) ∧
    (encode (.rdDutyLo 0#32)).toNat = 0x01400000000 := by decide

theorem test_decode_rdStatus :
    decodeTableWord 48 0x01800000000 = some (.rdStatus 0#32) ∧
    (encode (.rdStatus 0#32)).toNat = 0x01800000000 := by decide

theorem test_decode_rdCfgOsc :
    decodeTableWord 48 0x01C00000000 = some (.rdCfgOsc 0#32) ∧
    (encode (.rdCfgOsc 0#32)).toNat = 0x01C00000000 := by decide

theorem test_decode_rdCfgPrescale :
    decodeTableWord 48 0x02000000000 = some (.rdCfgPrescale 0#32) ∧
    (encode (.rdCfgPrescale 0#32)).toNat = 0x02000000000 := by decide

theorem test_decode_rdCfgRes :
    decodeTableWord 48 0x02400000000 = some (.rdCfgRes 0#32) ∧
    (encode (.rdCfgRes 0#32)).toNat = 0x02400000000 := by decide

theorem test_decode_rdCfgFscale :
    decodeTableWord 48 0x02800000000 = some (.rdCfgFscale 0#32) ∧
    (encode (.rdCfgFscale 0#32)).toNat = 0x02800000000 := by decide

theorem test_decode_wrPeriod :
    decodeTableWord 48 0x10800000005 = some (.wrPeriod 5#32) ∧
    (encode (.wrPeriod 5#32)).toNat = 0x10800000005 := by decide

theorem test_decode_wrDuty :
    decodeTableWord 48 0x10C00000001 = some (.wrDuty 1#32) ∧
    (encode (.wrDuty 1#32)).toNat = 0x10C00000001 := by decide

theorem test_decode_wrDutyHi :
    decodeTableWord 48 0x11000000001 = some (.wrDutyHi 1#32) ∧
    (encode (.wrDutyHi 1#32)).toNat = 0x11000000001 := by decide

theorem test_decode_wrDutyLo :
    decodeTableWord 48 0x11400000003 = some (.wrDutyLo 3#32) ∧
    (encode (.wrDutyLo 3#32)).toNat = 0x11400000003 := by decide

theorem test_decode_wrStatus :
    decodeTableWord 48 0x11800000000 = some (.wrStatus 0#32) ∧
    (encode (.wrStatus 0#32)).toNat = 0x11800000000 := by decide

theorem test_decode_wrCfgOsc :
    decodeTableWord 48 0x11C00000001 = some (.wrCfgOsc 1#32) ∧
    (encode (.wrCfgOsc 1#32)).toNat = 0x11C00000001 := by decide

theorem test_decode_wrCfgPrescale :
    decodeTableWord 48 0x12000000001 = some (.wrCfgPrescale 1#32) ∧
    (encode (.wrCfgPrescale 1#32)).toNat = 0x12000000001 := by decide

theorem test_decode_wrCfgRes :
    decodeTableWord 48 0x12400000010 = some (.wrCfgRes 16#32) ∧
    (encode (.wrCfgRes 16#32)).toNat = 0x12400000010 := by decide

theorem test_decode_wrCfgFscale :
    decodeTableWord 48 0x12800000001 = some (.wrCfgFscale 1#32) ∧
    (encode (.wrCfgFscale 1#32)).toNat = 0x12800000001 := by decide

theorem test_decode_misaligned01 :
    decodeTableWord 48 0x101000198CA = some (.misaligned01 .write 0x01#8 104650#32) ∧
    (encode (.misaligned01 .write 0x01#8 104650#32)).toNat = 0x101000198CA := by decide

theorem test_decode_misaligned10 :
    decodeTableWord 48 0x10600000032 = some (.misaligned10 .write 0x06#8 50#32) ∧
    (encode (.misaligned10 .write 0x06#8 50#32)).toNat = 0x10600000032 := by decide

theorem test_decode_misaligned11 :
    decodeTableWord 48 0x0FF00000000 = some (.misaligned11 .read 0xFF#8 0#32) ∧
    (encode (.misaligned11 .read 0xFF#8 0#32)).toNat = 0x0FF00000000 := by decide

theorem test_decode_reserved00101100 :
    decodeTableWord 48 0x12C00000000 = some (.reserved00101100 .write 0x2C#8 0#32) ∧
    (encode (.reserved00101100 .write 0x2C#8 0#32)).toNat = 0x12C00000000 := by decide

theorem test_decode_reserved0011xx00 :
    decodeTableWord 48 0x03000000000 = some (.reserved0011xx00 .read 0x30#8 0#32) ∧
    (encode (.reserved0011xx00 .read 0x30#8 0#32)).toNat = 0x03000000000 := by decide

theorem test_decode_reserved01xxxx00 :
    decodeTableWord 48 0x04000000000 = some (.reserved01xxxx00 .read 0x40#8 0#32) ∧
    (encode (.reserved01xxxx00 .read 0x40#8 0#32)).toNat = 0x04000000000 := by decide

theorem test_decode_reserved1xxxxx00 :
    decodeTableWord 48 0x1FC00000001 = some (.reserved1xxxxx00 .write 0xFC#8 1#32) ∧
    (encode (.reserved1xxxxx00 .write 0xFC#8 1#32)).toNat = 0x1FC00000001 := by decide


/-- A number of more than 41 bits is no transaction word (30_encoding.md R45). -/
theorem test_decode_rejects_long_numbers :
    decodeTableWord 48 0x20000000000 = none ∧ decodeTableWord 48 0x1FFFFFFFFFF ≠ none := by decide

/-! ### One step of every instruction -/

/-- A block with the given register values and nothing on its port. -/
def blockState (c : Config) (period duty : Nat) (err : ErrCode) (init dutyCur : Bool) : State :=
  { State.resetOf c Platform.defaults with
    period := BitVec.ofNat c.res period, duty := BitVec.ofNat (c.res + 3) duty
    err := err, init := init, dutyCur := dutyCur }

/-- What the spec's tables show of a transaction: RESP, RDATA, then PERIOD, DUTY and STATUS after. -/
def shown (o : Host.Outcome State Fault Refusal) : Option (List Nat) :=
  match o with
  | .next t =>
    match t.responses with
    | r :: _ => some [r.resp.bits.toNat, r.rdata.toNat, t.period.toNat, t.duty.toNat,
        t.statusWord.toNat]
    | [] => none
  | _ => none

/-- Configuration A with `PERIOD = 148`, `DUTY = 60`, `STATUS = 0xC` (section 1.2). -/
def tuned : State := blockState Config.defaults 148 60 .noError true true

/-- Configuration A with `PERIOD = 148`, `DUTY = 0`, `STATUS = 0x4` (section 1.1). -/
def tunedNoDuty : State := blockState Config.defaults 148 0 .noError true false

/-- The 16-bit counter of section 2.1. -/
def config16 : Config := ⟨262144, 1, 16, 1, by decide, by decide, by decide, by decide⟩

/-- The smallest counter of section 2.1. -/
def config1 : Config := ⟨8, 1, 1, 1, by decide, by decide, by decide, by decide⟩

/-- The largest parameters of section 2.1. -/
def configMax : Config :=
  ⟨4294967295, 65535, 16, 65535, by decide, by decide, by decide, by decide⟩

/-- Section 2.1, a tie: `N / D = 62.5` rounds up to 63. -/
theorem test_wrFreqCmd_rounds_a_tie_up :
    shown (step (State.reset.withFetchWord 48 0x1000003D090)) = some [0, 0, 62, 0, 0x4] := by decide

/-- Section 2.1, a failed command keeps the period. -/
theorem test_wrFreqCmd_above_freq_max_keeps_the_period :
    shown (step (tuned.withFetchWord 48 0x10000EE6B29)) = some [1, 0, 148, 60, 0xD] := by decide

/-- Section 2.2: 77.48 rounds down. -/
theorem test_wrPctCmd_rounds_down :
    shown (step (tunedNoDuty.withFetchWord 48 0x1040000000D)) =
      some [0, 0, 148, 77, 0xC] := by decide

/-- Section 3, P2 line 7: 356 is not masked to 8 bits. -/
theorem test_wrPctCmd_takes_all_32_bits :
    shown (step (tunedNoDuty.withFetchWord 48 0x10400000164)) =
      some [1, 0, 148, 0, 0x7] := by decide

/-- Section 3, P4. -/
theorem test_rdFreqCmd :
    shown (step (tuned.withFetchWord 48 0x00000000000)) =
      some [0, 0, 148, 60, 0xC] := by decide

/-- Section 3, P4. -/
theorem test_rdPctCmd :
    shown (step (tuned.withFetchWord 48 0x00400000000)) =
      some [0, 0, 148, 60, 0xC] := by decide

/-- Section 3, P1. -/
theorem test_rdPeriod :
    shown (step (tuned.withFetchWord 48 0x00800000000)) =
      some [0, 0x94, 148, 60, 0xC] := by decide

/-- Section 3, P1. -/
theorem test_rdDuty :
    shown (step (tuned.withFetchWord 48 0x00C00000000)) =
      some [0, 0x3C, 148, 60, 0xC] := by decide

/-- Section 3, P1. -/
theorem test_rdDutyHi :
    shown (step (tuned.withFetchWord 48 0x01000000000)) =
      some [0, 0xF, 148, 60, 0xC] := by decide

/-- Section 3, P1. -/
theorem test_rdDutyLo :
    shown (step (tuned.withFetchWord 48 0x01400000000)) =
      some [0, 0, 148, 60, 0xC] := by decide

/-- Section 3, P1. -/
theorem test_rdStatus :
    shown (step (tuned.withFetchWord 48 0x01800000000)) =
      some [0, 0xC, 148, 60, 0xC] := by decide

/-- Section 3, P4. -/
theorem test_rdCfgOsc :
    shown (step (tuned.withFetchWord 48 0x01C00000000)) =
      some [0, 0x00989680, 148, 60, 0xC] := by decide

/-- Section 3, P4. -/
theorem test_rdCfgPrescale :
    shown (step (tuned.withFetchWord 48 0x02000000000)) =
      some [0, 0x10, 148, 60, 0xC] := by decide

/-- Section 3, P4. -/
theorem test_rdCfgRes :
    shown (step (tuned.withFetchWord 48 0x02400000000)) =
      some [0, 8, 148, 60, 0xC] := by decide

/-- Section 3, P4. -/
theorem test_rdCfgFscale :
    shown (step (tuned.withFetchWord 48 0x02800000000)) =
      some [0, 0x64, 148, 60, 0xC] := by decide

/-- Section 2.2: `PERIOD = 148`, 13 percent is `DUTY = 77`, `DUTY_LO = 1`. -/
theorem test_rdDutyLo_of_77 :
    shown (exec (.rdDutyLo 0#32) (blockState Config.defaults 148 77 .noError true true)) =
      some [0, 1, 148, 77, 0xC] := by decide

/-- Section 3, P6: the widest duty value. -/
theorem test_rdDutyHi_needs_17_bits :
    shown (exec (.rdDutyHi 0#32) (blockState config16 65535 262144 .noError true true)) =
      some [0, 0x10000, 65535, 262144, 0xC] := by decide

/-- The block of the example of the bus-error table: `STATUS = 0xF`. -/
def tunedError : State := blockState Config.defaults 148 60 .invalidPercentage true true

/-- The bus-error table: nothing changes, not even `ERR`. -/
theorem test_wrPeriod :
    shown (step (tunedError.withFetchWord 48 0x10800000005)) =
      some [2, 0, 148, 60, 0xF] := by decide

/-- The bus-error table: nothing changes, not even `ERR`. -/
theorem test_wrDuty :
    shown (step (tunedError.withFetchWord 48 0x10C00000001)) =
      some [2, 0, 148, 60, 0xF] := by decide

/-- The bus-error table: nothing changes, not even `ERR`. -/
theorem test_wrDutyHi :
    shown (step (tunedError.withFetchWord 48 0x11000000001)) =
      some [2, 0, 148, 60, 0xF] := by decide

/-- The bus-error table: nothing changes, not even `ERR`. -/
theorem test_wrDutyLo :
    shown (step (tunedError.withFetchWord 48 0x11400000003)) =
      some [2, 0, 148, 60, 0xF] := by decide

/-- The bus-error table: nothing changes, not even `ERR`. -/
theorem test_wrStatus :
    shown (step (tunedError.withFetchWord 48 0x11800000000)) =
      some [2, 0, 148, 60, 0xF] := by decide

/-- The bus-error table: nothing changes, not even `ERR`. -/
theorem test_wrCfgOsc :
    shown (step (tunedError.withFetchWord 48 0x11C00000001)) =
      some [2, 0, 148, 60, 0xF] := by decide

/-- The bus-error table: nothing changes, not even `ERR`. -/
theorem test_wrCfgPrescale :
    shown (step (tunedError.withFetchWord 48 0x12000000001)) =
      some [2, 0, 148, 60, 0xF] := by decide

/-- The bus-error table: nothing changes, not even `ERR`. -/
theorem test_wrCfgRes :
    shown (step (tunedError.withFetchWord 48 0x12400000010)) =
      some [2, 0, 148, 60, 0xF] := by decide

/-- The bus-error table: nothing changes, not even `ERR`. -/
theorem test_wrCfgFscale :
    shown (step (tunedError.withFetchWord 48 0x12800000001)) =
      some [2, 0, 148, 60, 0xF] := by decide

/-- The bus-error table: nothing changes, not even `ERR`. -/
theorem test_misaligned01 :
    shown (step (tunedError.withFetchWord 48 0x101000198CA)) =
      some [2, 0, 148, 60, 0xF] := by decide

/-- The bus-error table: nothing changes, not even `ERR`. -/
theorem test_misaligned10 :
    shown (step (tunedError.withFetchWord 48 0x10600000032)) =
      some [2, 0, 148, 60, 0xF] := by decide

/-- The bus-error table: nothing changes, not even `ERR`. -/
theorem test_misaligned11 :
    shown (step (tunedError.withFetchWord 48 0x0FF00000000)) =
      some [2, 0, 148, 60, 0xF] := by decide

/-- The bus-error table: nothing changes, not even `ERR`. -/
theorem test_reserved00101100 :
    shown (step (tunedError.withFetchWord 48 0x12C00000000)) =
      some [2, 0, 148, 60, 0xF] := by decide

/-- The bus-error table: nothing changes, not even `ERR`. -/
theorem test_reserved0011xx00 :
    shown (step (tunedError.withFetchWord 48 0x03000000000)) =
      some [2, 0, 148, 60, 0xF] := by decide

/-- The bus-error table: nothing changes, not even `ERR`. -/
theorem test_reserved01xxxx00 :
    shown (step (tunedError.withFetchWord 48 0x04000000000)) =
      some [2, 0, 148, 60, 0xF] := by decide

/-- The bus-error table: nothing changes, not even `ERR`. -/
theorem test_reserved1xxxxx00 :
    shown (step (tunedError.withFetchWord 48 0x1FC00000001)) =
      some [2, 0, 148, 60, 0xF] := by decide

/-! ### Reset (70_reset_and_hazards.md R106) -/

/-- Reset between two transactions clears the block (10_state.md R29). -/
theorem test_reset_clears_the_block :
    (match step { tuned with port := [.assertReset] } with
      | .next t => some (t.period.toNat, t.duty.toNat, t.statusWord.toNat, t.port.length)
      | _ => none) = some (0, 0, 0, 0) := by decide

/-- Reset during a transaction leaves the reset state, whether or not its response is delivered. -/
theorem test_reset_during_a_transaction :
    ∃ t, step { tuned with port := [.resetDuring 0x100000198CA#41] } = .next t ∧
      t.period.toNat = 0 ∧ t.init = false := ⟨_, rfl, rfl, rfl⟩

/-! ### The hypotheses of the statements can be met

Each theorem below names its statement. It gives, for each hypothesis or clause with one, a concrete
state and operands that meet it, at the ends of the clause's range where it has ends. -/

/-- A state for a statement about `exec … = .next t`: the witness is what the machine answers. -/
def answered (o : Host.Outcome State Fault Refusal) (p : State → Bool) : Bool :=
  match o with
  | .next t => p t
  | _ => false

/-- An answered outcome is a next state with the property. -/
theorem exists_of_answered {o : Host.Outcome State Fault Refusal} {p : State → Bool}
    (h : answered o p = true) : ∃ t, o = .next t ∧ p t = true := by
  cases o with
  | next t => exact ⟨t, rfl, h⟩
  | fault e => cases e
  | refused e => cases h

/-- A block in configuration A right after reset. -/
def fresh : State := State.reset

/-- A block whose frequency was never set but whose registers are not all zero: no run reaches it. -/
def odd : State := blockState Config.defaults 5 7 .outOfRange false true

theorem witness_RoundHalfUpIsFloorOfPlusHalf :
    (0 < 1 ∧ 0 < 2 ∧ 2 * (5 % 2) = 2) ∧ roundHalfUpDiv 5 2 = 3 ∧ roundHalfUpDiv 0 1 = 0 := by decide

theorem witness_ConfigurationIsLegalAndFixed :
    Config.LegalValues 1 1 1 1 ∧ Config.LegalValues 4294967295 65535 16 65535 ∧
    Config.build 0 1 1 1 = none ∧ Config.build 262144 1 16 1 = some config16 := by decide

theorem witness_ConfigurationIsLegalAndFixed_illegal :
    ¬ Config.LegalValues 0 1 1 1 ∧ ¬ Config.LegalValues 4294967296 1 1 1 ∧
    ¬ Config.LegalValues 1 0 1 1 ∧ ¬ Config.LegalValues 1 65536 1 1 := by decide

theorem witness_ConfigurationIsLegalAndFixed_illegal' :
    ¬ Config.LegalValues 1 1 0 1 ∧ ¬ Config.LegalValues 1 1 17 1 ∧
    ¬ Config.LegalValues 1 1 1 0 ∧ ¬ Config.LegalValues 1 1 1 65536 := by decide

theorem witness_ConfigurationIsLegalAndFixed_step : ∃ t, step fresh = .next t := ⟨_, rfl⟩

theorem witness_InRangeIsTheFrequencyRange :
    Config.defaults.inRange 15625000 ∧ ¬ Config.defaults.inRange 15625001 ∧
    Config.defaults.inRange 61036 ∧ ¬ Config.defaults.inRange 61035 ∧
    ¬ Config.defaults.inRange 0 := by decide

theorem witness_PeriodIsTheRoundedFormula :
    Config.defaults.inRange 250000 ∧ Config.defaults.periodOf 250000 = 62 ∧
    config16.inRange 1 ∧ config16.periodOf 1 = 65535 ∧
    config16.inRange 65536 ∧ config16.periodOf 65536 = 0 := by decide

theorem witness_PeriodInRangeFits :
    config1.inRange 1 ∧ config1.periodOf 1 = 2 ^ 1 - 1 ∧ config1.inRange 2 ∧
    configMax.inRange 16384 ∧ configMax.periodOf 16384 = 65535 ∧
    configMax.inRange 1073741823 ∧ ¬ configMax.inRange 1073741824 := by decide

theorem witness_PeriodRoundTripAccuracy :
    Config.defaults.inRange 104650 ∧ Config.defaults.periodOf 104650 = 148 ∧
    Config.defaults.inRange 61036 ∧ Config.defaults.inRange 15625000 := by decide

theorem witness_DutyLawsHold :
    (100 ≤ 100 ∧ 0 ≤ 100 ∧ 255 ≤ 2 ^ Config.defaults.res - 1 ∧ 0 ≤ 2 ^ Config.defaults.res - 1) ∧
    (10 ≤ 13) ∧ dutyOf 10 148 = 60 ∧ dutyOf 100 255 = 1024 ∧ dutyOf 100 65535 = 262144 := by decide

/-- The integer nearest to the exact 59.6 of `pct = 10`, `PERIOD = 148` is 60. -/
theorem witness_DutyLawsHold_nearest (m : ℤ) :
    abs ((10 : ℚ) / 100 * 4 * (148 + 1) - (60 : ℤ)) ≤
      abs ((10 : ℚ) / 100 * 4 * (148 + 1) - m) := by
  have h : abs ((10 : ℚ) / 100 * 4 * (148 + 1) - (60 : ℤ)) = 2 / 5 := by norm_num [abs_of_neg]
  rw [h]
  rcases le_or_gt m 59 with hm | hm
  · have h' : (m : ℚ) ≤ 59 := by exact_mod_cast hm
    exact le_abs.mpr (.inl (by linarith))
  · have h' : (60 : ℚ) ≤ m := by exact_mod_cast hm
    exact le_abs.mpr (.inr (by linarith))

theorem witness_DecodeOfEncode :
    (Instr.wrFreqCmd 0xFFFFFFFF#32).wellFormed ∧ (Instr.rdStatus 1#32).wellFormed ∧
    (Instr.wrStatus 0#32).wellFormed ∧ (Instr.misaligned01 .read 0x01#8 0#32).wellFormed ∧
    (Instr.misaligned10 .write 0xFE#8 0#32).wellFormed ∧
    (Instr.misaligned11 .read 0xFF#8 0#32).wellFormed ∧
    (Instr.reserved00101100 .write 0x2C#8 7#32).wellFormed ∧
    (Instr.reserved0011xx00 .read 0x30#8 0#32).wellFormed ∧
    (Instr.reserved0011xx00 .read 0x3C#8 0#32).wellFormed ∧
    (Instr.reserved01xxxx00 .read 0x40#8 0#32).wellFormed ∧
    (Instr.reserved01xxxx00 .read 0x7C#8 0#32).wellFormed ∧
    (Instr.reserved1xxxxx00 .write 0x80#8 0#32).wellFormed ∧
    (Instr.reserved1xxxxx00 .write 0xFC#8 0#32).wellFormed := by decide

theorem witness_DecodeFollowsTheMap :
    ((0x01#8).toNat % 4 = 1 ∧ (0xFD#8).toNat % 4 = 1) ∧
    ((0x02#8).toNat % 4 = 2 ∧ (0xFE#8).toNat % 4 = 2) ∧
    ((0x03#8).toNat % 4 = 3 ∧ (0xFF#8).toNat % 4 = 3) ∧
    ((0x2C#8).toNat % 4 = 0 ∧ (0x2C#8).toNat = 0x2C) ∧
    ((0x30#8).toNat % 4 = 0 ∧ 0x30 ≤ (0x30#8).toNat ∧ (0x30#8).toNat < 0x40) ∧
    ((0x3C#8).toNat % 4 = 0 ∧ 0x30 ≤ (0x3C#8).toNat ∧ (0x3C#8).toNat < 0x40) ∧
    ((0x40#8).toNat % 4 = 0 ∧ 0x40 ≤ (0x40#8).toNat ∧ (0x40#8).toNat < 0x80) ∧
    ((0x7C#8).toNat % 4 = 0 ∧ 0x40 ≤ (0x7C#8).toNat ∧ (0x7C#8).toNat < 0x80) ∧
    ((0x80#8).toNat % 4 = 0 ∧ 0x80 ≤ (0x80#8).toNat) ∧
    ((0xFC#8).toNat % 4 = 0 ∧ 0x80 ≤ (0xFC#8).toNat) := by decide

theorem witness_EveryTransactionReturnsOneResponse :
    wOf 0x10400000032#41 = .write ∧
    ∃ t, exec (decode 0x10400000032#41) fresh = .next t ∧
      decide (t.lastResponse = some ⟨.cmdErr, 0#32⟩) = true :=
  ⟨by decide, exists_of_answered (by decide)⟩

theorem witness_DataIsOperandOrIgnored :
    tuned.init = true ∧
    (Dir.read = .read ∨ (0x08 ≤ (0x00#8).toNat ∧ (0x00#8).toNat ≤ 0x28)) ∧
    (Dir.write = .read ∨ (0x08 ≤ (0x08#8).toNat ∧ (0x08#8).toNat ≤ 0x28)) ∧
    (Dir.write = .read ∨ (0x08 ≤ (0x28#8).toNat ∧ (0x28#8).toNat ≤ 0x28)) ∧
    42949672 * Config.defaults.freqScale < 2 ^ 32 ∧ 0 * Config.defaults.freqScale < 2 ^ 32 := by
  decide

theorem witness_PseudoInstructionsExpand :
    assemble Config.defaults (.setf ⟨104650, 2⟩) = .ok [0x100000198CA#41] ∧
    assemble Config.defaults (.setf ⟨1, 3⟩) = .error .inexactFrequency ∧
    assemble Config.defaults (.setd 4294967295) = .ok [0x104FFFFFFFF#41] ∧
    assemble Config.defaults (.setd 4294967296) = .error .valueTooLarge ∧
    assemble Config.defaults (.retune ⟨2500, 0⟩ 25) =
      .ok [0x1000003D090#41, 0x10400000019#41] := by decide

/-- In order: a frequency in range, at `freq_max` (`D = N`), a tie, and each way out of range. -/
theorem witness_SetFrequency :
    (1 ≤ (104650#32).toNat ∧ Config.defaults.inRange (104650#32).toNat) ∧
    (Config.defaults.divisor 15625000 = Config.defaults.scaledOsc ∧
      Config.defaults.inRange 15625000) ∧
    (2 * (Config.defaults.scaledOsc % Config.defaults.divisor 250000) =
      Config.defaults.divisor 250000 ∧ Config.defaults.inRange 250000) ∧
    (0#32).toNat = 0 ∧ Config.defaults.scaledOsc < Config.defaults.divisor 15625001 ∧
    Config.defaults.divisor 61035 * 2 ^ Config.defaults.res < Config.defaults.scaledOsc ∧
    tuned.cfg = Config.defaults ∧ fresh.cfg = Config.defaults := by decide

/-- `N = D * 2^RES`: exactly `freq_min`. -/
theorem witness_SetFrequency_at_freq_min :
    config16.scaledOsc = config16.divisor 1 * 2 ^ config16.res ∧ config16.inRange 1 := by decide

/-- A block whose `freq_max`, 1 / 262140 Hz, is below every operand. -/
def configNoFrequency : Config := ⟨1, 65535, 1, 1, by decide, by decide, by decide, by decide⟩

theorem witness_SetFrequency_no_operand_in_range (G : Word) :
    ¬ configNoFrequency.inRange G.toNat := by
  intro h
  have h1 := h.1
  have h2 : 4 * 65535 * G.toNat ≤ 1 * 1 := h.2.1
  omega

theorem witness_SetDutyCycle :
    (tuned.init = true ∧ (0#32).toNat ≤ 100 ∧ (100#32).toNat ≤ 100 ∧ tuned.period.toNat = 148 ∧
      (10#32).toNat = 10) ∧
    ((blockState Config.defaults 255 0 .noError true false).period.toNat =
      2 ^ Config.defaults.res - 1) ∧
    ((blockState Config.defaults 0 0 .noError true false).period.toNat = 0) ∧
    (fresh.init = false ∧ odd.init = false) ∧
    (tuned.init = true ∧ 100 < (101#32).toNat ∧ 100 < (0xFFFFFFFF#32).toNat) := by decide

theorem witness_FailedCommandChangesOnlyErr :
    (Instr.wrFreqCmd 0#32).cls = .command ∧ (Instr.wrPctCmd 101#32).cls = .command ∧
    (∃ t, exec (.wrFreqCmd 0#32) tuned = .next t ∧ decide (t.err ≠ .noError) = true) ∧
    (∃ t, exec (.wrPctCmd 101#32) tuned = .next t ∧ decide (t.err ≠ .noError) = true) ∧
    (∃ t, exec (.wrPctCmd 50#32) fresh = .next t ∧ decide (t.err ≠ .noError) = true) :=
  ⟨rfl, rfl, exists_of_answered (by decide), exists_of_answered (by decide),
    exists_of_answered (by decide)⟩

theorem witness_ReadsAreSilentAndCommandsIdempotent :
    (∃ t, exec (.wrFreqCmd 250000#32) fresh = .next t ∧ decide (t.block ≠ fresh.block) = true) ∧
    (∃ t, exec (.wrPctCmd 13#32) tuned = .next t ∧ decide (t.block ≠ tuned.block) = true) ∧
    (Instr.wrFreqCmd 250000#32).cls = .command ∧ (Instr.wrPctCmd 13#32).cls = .command :=
  ⟨exists_of_answered (by decide), exists_of_answered (by decide), rfl, rfl⟩

theorem witness_EveryMappedReadAnswersOkay :
    (Instr.rdFreqCmd 0#32).cls = .read ∧ (Instr.rdCfgFscale 0xFFFFFFFF#32).cls = .read := by decide

theorem witness_RdPeriodReturnsPeriod : tuned.period.toNat = 148 := by decide

theorem witness_RdDutyReturnsDuty :
    tuned.duty.toNat = 60 ∧
    (blockState config16 65535 262144 .noError true true).duty.toNat = 2 ^ (16 + 2) := by decide

theorem witness_RdDutyHiReturnsHighBits :
    tuned.duty.toNat = 60 ∧
    (blockState Config.defaults 255 1024 .noError true true).duty.toNat = 1024 := by decide

theorem witness_RdDutyLoReturnsLowBits :
    (blockState Config.defaults 148 77 .noError true true).duty.toNat = 77 := by decide

theorem witness_RdStatusReturnsStatus :
    tuned.err = .noError ∧ tuned.init = true ∧ tuned.dutyCur = true := by decide

theorem witness_ConfigurationReadsReturnParameters :
    tuned.cfg = Config.defaults ∧ tuned.cfg.res = 8 ∧
    ∃ t, step { tuned with port := [.assertReset] } = .next t := ⟨rfl, rfl, _, rfl⟩

theorem witness_ReservedOffsetsAreBusErrors :
    ((0x2C#8).toNat % 4 = 0 ∧ 0x2C ≤ (0x2C#8).toNat) ∧
    ((0xFC#8).toNat % 4 = 0 ∧ 0x2C ≤ (0xFC#8).toNat) := by decide

theorem witness_MisalignedAccessesAreBusErrors :
    (0x01#8).toNat % 4 ≠ 0 ∧ (0x0A#8).toNat % 4 ≠ 0 ∧ (0xFF#8).toNat % 4 ≠ 0 := by decide

theorem witness_BusErrorExactlyForBadOffsetOrDirection :
    (∃ t, exec (decode (packWord .read 0x28#8 0#32)) tuned = .next t ∧
      decide (t.lastResponse = some ⟨.okay, 100#32⟩) = true) ∧
    (∃ t, exec (decode (packWord .write 0x28#8 0#32)) tuned = .next t ∧
      decide (t.lastResponse = some ⟨.busErr, 0#32⟩) = true) ∧
    (∃ t, exec (decode (packWord .read 0x2C#8 0#32)) tuned = .next t ∧
      decide (t.lastResponse = some ⟨.busErr, 0#32⟩) = true) ∧
    (∃ t, exec (decode (packWord .write 0x07#8 0#32)) tuned = .next t ∧
      decide (t.lastResponse = some ⟨.busErr, 0#32⟩) = true) :=
  ⟨exists_of_answered (by decide), exists_of_answered (by decide), exists_of_answered (by decide),
    exists_of_answered (by decide)⟩

theorem witness_PeriodWrittenOnlyBySetFrequency :
    tuned.cfg.inRange (15625000#32).toNat ∧
    (∃ t, exec (.wrFreqCmd 15625000#32) tuned = .next t ∧ decide (t.period.toNat = 0) = true) ∧
    (∃ t, exec (.wrPeriod 5#32) tuned = .next t ∧ decide (t.period.toNat = 148) = true) :=
  ⟨by decide, exists_of_answered (by decide), exists_of_answered (by decide)⟩

theorem witness_InitSetBySetFrequencyClearedByReset :
    (fresh.cfg.inRange (61036#32).toNat ∧
      ∃ t, exec (.wrFreqCmd 61036#32) fresh = .next t ∧ decide (t.init = true) = true) ∧
    (tuned.init = true ∧
      ∃ t, step { tuned with port := [.assertReset] } = .next t ∧
        decide (t.init = false) = true) ∧
    (tuned.init = true ∧
      ∃ t, step { tuned with port := [.resetDuring 0x00800000000#41] } = .next t ∧
        t.init = false) ∧
    fresh.init = false ∧
    (fresh.init = true → fresh.PeriodComputed) :=
  ⟨⟨by decide, exists_of_answered (by decide)⟩, ⟨rfl, exists_of_answered (by decide)⟩,
    ⟨rfl, _, rfl, rfl⟩, rfl, fun h => nomatch h⟩

/-- `PERIOD = 148` with `INIT` set is a computed period, and a step goes on from it. -/
theorem witness_InitSetBySetFrequencyClearedByReset_computed :
    tuned.PeriodComputed ∧ tuned.init = true ∧ ∃ t, step tuned = .next t :=
  ⟨⟨104650#32, by decide, by decide⟩, rfl, _, rfl⟩

theorem witness_DutyWrittenOnlyBySetDutyCycle :
    tuned.init = true ∧ (100#32).toNat ≤ 100 ∧ (0#32).toNat ≤ 100 ∧
    (∃ t, exec (.wrPctCmd 100#32) tuned = .next t ∧ decide (t.duty.toNat = 596) = true) ∧
    (∃ t, exec (.wrDuty 5#32) tuned = .next t ∧ decide (t.duty.toNat = 60) = true) :=
  ⟨rfl, by decide, by decide, exists_of_answered (by decide), exists_of_answered (by decide)⟩

theorem witness_DutySplitsIntoHighAndLow :
    (blockState Config.defaults 255 1024 .noError true true).duty.toNat = 1024 ∧
    tuned.cfg.res = 8 ∧ tuned.duty.toNat < 1024 ∧
    (blockState Config.defaults 255 1023 .noError true true).duty.toNat < 1024 := by decide

theorem witness_ErrReportsTheLastCommand :
    (∃ t, exec (.wrPctCmd 100#32) tunedError = .next t ∧ decide (t.err = .noError) = true) ∧
    (Instr.wrPctCmd 100#32).cls = .command ∧
    (∃ t, exec (.rdStatus 0#32) tunedError = .next t ∧
      decide (t.err = .invalidPercentage) = true) ∧
    (Instr.rdStatus 0#32).cls ≠ .command :=
  ⟨exists_of_answered (by decide), rfl, exists_of_answered (by decide), by decide⟩

theorem witness_DutyCurShowsACurrentDuty :
    (∃ t, exec (.wrPctCmd 0#32) tunedNoDuty = .next t ∧ decide (t.dutyCur = true) = true) ∧
    (∃ t, exec (.wrFreqCmd 250000#32) tuned = .next t ∧ decide (t.dutyCur = false) = true) ∧
    (∃ t, exec (.wrFreqCmd 10000#32) tuned = .next t ∧ decide (t.dutyCur = true) = true) ∧
    tunedNoDuty.init = true ∧ tuned.cfg.inRange (250000#32).toNat ∧
    ¬ tuned.cfg.inRange (10000#32).toNat :=
  ⟨exists_of_answered (by decide), exists_of_answered (by decide), exists_of_answered (by decide),
    rfl, by decide, by decide⟩

/-- The same block beside another host. -/
def tunedOtherHost : State :=
  { tuned with port := [.assertReset], responses := [⟨.okay, 1#32⟩], cutOffs := 3 }

theorem witness_NoHiddenState :
    tuned ≠ tunedOtherHost ∧ tuned.platform = tunedOtherHost.platform ∧
    (∀ r, tuned.readReg r = tunedOtherHost.readReg r) ∧ tuned.block = tunedOtherHost.block ∧
    (∃ u, exec (.rdPeriod 0#32) tuned = .next u) ∧
    (∃ v, exec (.rdPeriod 0#32) tunedOtherHost = .next v) :=
  ⟨by decide, rfl, fun _ => rfl, rfl, ⟨_, rfl⟩, ⟨_, rfl⟩⟩

theorem witness_EveryStepKeepsTheInvariants :
    tuned.Inv ∧ ∃ t, step { tuned with port := [.transaction 0x1000003D090#41] } = .next t ∧
      decide (t.period.toNat = 62 ∧ t.duty.toNat = 60 ∧ t.dutyCur = false) = true :=
  ⟨⟨by decide, by decide, by decide, by decide, fun _ => ⟨10, by decide, by decide⟩⟩,
    exists_of_answered (by decide)⟩

theorem witness_InvariantsHoldWhenReachable :
    ∃ s : State, s.Reachable ∧
      decide (s.dutyCur = true ∧ s.init = true ∧ s.duty.toNat = 60) = true := by
  obtain ⟨s, hs, h⟩ := exists_of_answered
    (o := Sys2Proof.core.run 2 { State.resetOf Config.defaults Platform.defaults with
      port := [.transaction 0x100000198CA#41, .transaction 0x1040000000A#41] })
    (p := fun s => decide (s.dutyCur = true ∧ s.init = true ∧ s.duty.toNat = 60)) (by decide)
  exact ⟨s, ⟨_, _, _, _, hs⟩, h⟩

theorem witness_ErrorsRaisedExactlyWhen :
    (∃ t, exec (.wrFreqCmd 0#32) tuned = .next t ∧
      decide (t.lastResponse = some ⟨.cmdErr, 0#32⟩ ∧ t.err.bits = 1#2) = true) ∧
    (∃ t, exec (.wrPctCmd 50#32) fresh = .next t ∧
      decide (t.lastResponse = some ⟨.cmdErr, 0#32⟩ ∧ t.err.bits = 2#2) = true) ∧
    (∃ t, exec (.wrPctCmd 101#32) tuned = .next t ∧
      decide (t.lastResponse = some ⟨.cmdErr, 0#32⟩ ∧ t.err.bits = 3#2) = true) ∧
    (∃ t, exec (.wrStatus 0#32) tuned = .next t ∧
      decide (t.lastResponse = some ⟨.busErr, 0#32⟩) = true) :=
  ⟨exists_of_answered (by decide), exists_of_answered (by decide), exists_of_answered (by decide),
    exists_of_answered (by decide)⟩

theorem witness_ResponseCodesMean :
    (∃ t, exec (.wrPctCmd 50#32) tuned = .next t ∧
      decide (t.lastResponse = some ⟨.okay, 0#32⟩) = true) ∧
    (∃ t, exec (.wrPctCmd 50#32) fresh = .next t ∧
      decide (t.lastResponse = some ⟨.cmdErr, 0#32⟩) = true) ∧
    (∃ t, exec (.misaligned01 .read 0x09#8 0#32) fresh = .next t ∧
      decide (t.lastResponse = some ⟨.busErr, 0#32⟩) = true) :=
  ⟨exists_of_answered (by decide), exists_of_answered (by decide), exists_of_answered (by decide)⟩

theorem witness_ErrorPriority :
    (decode (packWord .write 0x01#8 104650#32)).cls = .busError ∧
    (fresh.init = false ∧ 100 < (101#32).toNat) ∧
    (∃ t, exec (.wrFreqCmd 0#32) fresh = .next t ∧ decide (t.err = .outOfRange) = true) :=
  ⟨by decide, by decide, exists_of_answered (by decide)⟩

theorem witness_TheBlockNeverStops :
    ({ tuned with port := [.transaction 0x10C00000001#41] } : State).port =
      .transaction 0x10C00000001#41 :: [] := rfl

theorem witness_StepRunsTheDecodedInstruction :
    (tuned.withFetchWord 48 0x00800000000).port = .transaction 0x00800000000#41 :: [] ∧
    (Instr.misaligned11 .write 0xFF#8 5#32).wellFormed = true ∧
    (Instr.wrFreqCmd 0#32).wellFormed = true := by decide

/-- Three masters, of whom the third goes between the first's two events (20_memory.md R40). -/
theorem test_merge_of_three_masters :
    mergeMasters [[true, false, false, true], [false, true]] [[1, 2], [3], [4]] =
      ([1, 4, 3, 2] : List Nat) := by decide

theorem witness_AccessWordOfAnAddress :
    2 ≠ 4 ∧ (0 < 256 ∧ 255 < 256) ∧
    ((⟨0x1000, 1⟩ : Platform).base + 255 = 0x10FF) ∧
    (0xFFF < (⟨0x1000, 1⟩ : Platform).base) ∧ ((⟨0x1000, 1⟩ : Platform).base + 256 ≤ 0x1100) ∧
    (⟨0x1000, 1⟩ : Platform).accessWord .read 0x10FF 4 0#32 = .ok 0x0FF00000000#41 ∧
    (⟨0x1000, 1⟩ : Platform).accessWord .read 0x1100 4 0#32 = .error .outsideWindow ∧
    (⟨0x1000, 1⟩ : Platform).accessWord .read 0x1008 2 0#32 = .error .subWord := by decide

theorem witness_NoRuleDependsOnThePlatform :
    ∃ t, step { tuned with port := [.transaction 0x10400000019#41] } = .next t ∧
      decide (t.duty.toNat = 149) = true := exists_of_answered (by decide)

theorem witness_ResetFromAnyState :
    ({ tuned with port := [.assertReset] } : State).port = .assertReset :: [] ∧
    ({ tuned with port := [.resetDuring 0x100000198CA#41, .assertReset] } : State).port =
      .resetDuring 0x100000198CA#41 :: [.assertReset] := ⟨rfl, rfl⟩

theorem witness_StaleDutyUntilReissued :
    tuned.cfg.inRange (131851#32).toNat ∧ (25#32).toNat ≤ 100 ∧
    Config.defaults.periodOf 131851 = 118 ∧ dutyOf 25 118 = 119 := by decide

theorem witness_NextReadSeesTheCommand :
    (tuned.cfg.inRange (131851#32).toNat ∧
      ∃ t, exec (.wrFreqCmd 131851#32) tuned = .next t ∧ decide (t.period.toNat = 118) = true) ∧
    (tuned.init = true ∧ (99#32).toNat ≤ 100 ∧
      ∃ t, exec (.wrPctCmd 99#32) tuned = .next t ∧ decide (t.duty.toNat = 590) = true) :=
  ⟨⟨by decide, exists_of_answered (by decide)⟩, rfl, by decide, exists_of_answered (by decide)⟩

end Sys2Proof.Tests
end

section
/-! PROOFS. The statements of 00_scope.md: rounding half up (R12), the configuration (R6) and the
platform parameters (R8), with the facts about the shared operations that they need. -/

namespace Sys2Proof

/-! ### Rounding half up -/

/-- The rounded quotient is the floor of the exact quotient plus 1/2 (00_scope.md R12): the integer
form `fdiv(2*a + b, 2*b)` puts `a / b + 1/2` over the common denominator `2*b`. -/
theorem roundHalfUpDiv_eq_floor (a b : Nat) (hb : 0 < b) :
    (roundHalfUpDiv a b : ℤ) = ⌊(a : ℚ) / b + 1 / 2⌋ := by
  have hb' : (b : ℚ) ≠ 0 := by positivity
  have common : (a : ℚ) / b + 1 / 2 = ((2 * a + b : ℕ) : ℚ) / ((2 * b : ℕ) : ℚ) := by
    push_cast
    field_simp
  rw [common, Rat.floor_natCast_div_natCast, ← Int.natCast_ediv]
  rfl

/-- A tie is rounded up (00_scope.md R12): with remainder `b / 2` the dividend `2*a + b` is exactly
`2*b` times the next integer. -/
theorem roundHalfUpDiv_of_tie (a b : Nat) (hb : 0 < b) (tie : 2 * (a % b) = b) :
    roundHalfUpDiv a b = a / b + 1 := by
  have dividend : 2 * a + b = 2 * b * (a / b + 1) := by
    calc 2 * a + b = 2 * (b * (a / b) + a % b) + b := by rw [Nat.div_add_mod]
      _ = 2 * (b * (a / b)) + 2 * (a % b) + b := by ring
      _ = 2 * (b * (a / b)) + b + b := by rw [tie]
      _ = 2 * b * (a / b + 1) := by ring
  exact Nat.div_eq_of_eq_mul_right (by omega) dividend

/-- Settles O1: the floor form and the tie are the two lemmas above, the integer form is the
definition. -/
theorem roundHalfUpIsFloorOfPlusHalf : Obligations.RoundHalfUpIsFloorOfPlusHalf :=
  fun a b hb => ⟨roundHalfUpDiv_eq_floor a b hb, rfl, roundHalfUpDiv_of_tie a b hb⟩

/-! ### Building a configuration -/

/-- Legal values are built as they are given (00_scope.md R6). -/
theorem Config.build_of_legal {osc pre res fs : Nat} (h : LegalValues osc pre res fs) :
    ∃ c, Config.build osc pre res fs = some c ∧
      c.oscHz = osc ∧ c.prescale = pre ∧ c.res = res ∧ c.freqScale = fs :=
  ⟨_, dif_pos h, rfl, rfl, rfl, rfl⟩

/-- Any other values are refused (70_reset_and_hazards.md R109 item 1). -/
theorem Config.build_of_not_legal {osc pre res fs : Nat} (h : ¬ LegalValues osc pre res fs) :
    Config.build osc pre res fs = none :=
  dif_neg h

namespace Machine

/-! ### What an instruction of each class does -/

/-- A read instruction performs the read of its register. -/
theorem exec_of_readTarget {i : Instr} {r : Reg} (h : i.readTarget = some r) (s : State) :
    exec i s = .next (s.performRead r) := by
  cases i <;> cases h <;> rfl

/-- An instruction of the bus-error class raises the bus error. -/
theorem exec_of_busError {i : Instr} (h : i.cls = .busError) (s : State) :
    exec i s = .next s.raiseBusError := by
  cases i <;> cases h <;> rfl

/-! ### The configuration is fixed -/

/-- `set_frequency` keeps the configuration, accepted or not. -/
@[simp] theorem State.setFrequency_cfg (s : State) (f : Nat) : (s.setFrequency f).cfg = s.cfg := by
  obtain ⟨-, h⟩ | ⟨-, h⟩ := setFrequency_cases s f <;> rw [h]

/-- `set_duty_cycle` keeps the configuration, accepted or not. -/
@[simp] theorem State.setDutyCycle_cfg (s : State) (pct : Nat) :
    (s.setDutyCycle pct).cfg = s.cfg := by
  obtain ⟨-, -, h⟩ | ⟨-, h⟩ | ⟨-, -, h⟩ := setDutyCycle_cases s pct <;> rw [h]

/-- No instruction changes the configuration. -/
theorem exec_cfg {i : Instr} {s t : State} (h : exec i s = .next t) : t.cfg = s.cfg := by
  obtain ⟨f, -, hx⟩ | ⟨pct, -, hx⟩ | ⟨r, -, -, hx⟩ | ⟨-, hx⟩ := exec_cases i s <;>
    cases hx.symm.trans h
  case inl => exact s.setFrequency_cfg f.toNat
  case inr.inl => exact s.setDutyCycle_cfg pct.toNat
  case inr.inr.inl => rw [performRead_eq]
  case inr.inr.inr => rw [raiseBusError_eq]

/-- No step changes the configuration (00_scope.md R6). -/
theorem step_cfg {s t : State} (h : step s = .next t) : t.cfg = s.cfg := by
  obtain ⟨-, rfl⟩ | ⟨w, rest, -, hx⟩ | ⟨rest, -, rfl⟩ | ⟨w, rest, p, -, -, rfl⟩ := step_cases h
  · rfl
  · calc t.cfg = ({ s with port := rest } : State).cfg := exec_cfg hx
      _ = s.cfg := rfl
  · rfl
  · rfl

/-- Settles O2: the two lemmas about `Config.build`, the defaults by evaluation, and `step_cfg`. -/
theorem configurationIsLegalAndFixed : Obligations.ConfigurationIsLegalAndFixed :=
  ⟨fun _ _ _ _ => ⟨Config.build_of_legal, Config.build_of_not_legal⟩, rfl, fun _ _ => step_cfg⟩

/-! ### Moving a state to another platform -/

/-- The state on another platform: `BASE` and `LATENCY` replaced, all else as it was
(00_scope.md R8). -/
def State.onPlatform (s : State) (p : Platform) : State := { s with platform := p }

section OnPlatform

variable (s : State) (p : Platform)

/-- `set_frequency` does the same on every platform. -/
theorem State.setFrequency_onPlatform (f : Nat) :
    (s.onPlatform p).setFrequency f = (s.setFrequency f).onPlatform p := by
  obtain ⟨hf, h⟩ | ⟨hf, h⟩ := setFrequency_cases s f <;> rw [h]
  · exact if_pos hf
  · exact if_neg hf

/-- `set_duty_cycle` does the same on every platform. -/
theorem State.setDutyCycle_onPlatform (pct : Nat) :
    (s.onPlatform p).setDutyCycle pct = (s.setDutyCycle pct).onPlatform p := by
  obtain ⟨hi, hp, h⟩ | ⟨hi, h⟩ | ⟨hi, hp, h⟩ := setDutyCycle_cases s pct <;> rw [h]
  · exact (if_neg (by simp [State.onPlatform, hi])).trans (if_pos hp)
  · exact if_pos hi
  · exact (if_neg (by simp [State.onPlatform, hi])).trans (if_neg hp)

/-- A register reads the same on every platform. -/
theorem State.readReg_onPlatform (r : Reg) : (s.onPlatform p).readReg r = s.readReg r := by
  cases r <;> rfl

/-- A read does the same on every platform. -/
theorem State.performRead_onPlatform (r : Reg) :
    (s.onPlatform p).performRead r = (s.performRead r).onPlatform p := by
  rw [performRead_eq, performRead_eq, State.readReg_onPlatform]
  rfl

/-- A bus error is the same on every platform. -/
theorem State.raiseBusError_onPlatform :
    (s.onPlatform p).raiseBusError = s.raiseBusError.onPlatform p := rfl

end OnPlatform

/-- An instruction does the same on every platform. -/
theorem exec_onPlatform {i : Instr} {s t : State} (p : Platform) (h : exec i s = .next t) :
    exec i (s.onPlatform p) = .next (t.onPlatform p) := by
  obtain ⟨f, rfl, hx⟩ | ⟨pct, rfl, hx⟩ | ⟨r, -, hr, hx⟩ | ⟨hc, hx⟩ := exec_cases i s <;>
    cases hx.symm.trans h
  case inl => exact congrArg _ (s.setFrequency_onPlatform p f.toNat)
  case inr.inl => exact congrArg _ (s.setDutyCycle_onPlatform p pct.toNat)
  case inr.inr.inl => rw [exec_of_readTarget hr, State.performRead_onPlatform]
  case inr.inr.inr => rw [exec_of_busError hc, State.raiseBusError_onPlatform]

/-- A step does the same on every platform (70_reset_and_hazards.md R114). -/
theorem step_onPlatform {s t : State} (p : Platform) (h : step s = .next t) :
    step (s.onPlatform p) = .next (t.onPlatform p) := by
  obtain ⟨hp, rfl⟩ | ⟨w, rest, hp, hx⟩ | ⟨rest, hp, rfl⟩ | ⟨w, rest, u, hp, hx, rfl⟩ := step_cases h
  · exact step_idle _ hp
  · rw [step_transaction (s.onPlatform p) w rest hp]
    exact exec_onPlatform p hx
  · exact step_assertReset (s.onPlatform p) rest hp
  · have performed : exec (decode w) { s.onPlatform p with port := rest } =
        .next (u.onPlatform p) := exec_onPlatform p hx
    rw [step_resetDuring (s.onPlatform p) w rest hp, performed]
    rfl

/-- Settles O56: `State.onPlatform` is the replacement the statement makes. -/
theorem noRuleDependsOnThePlatform : Obligations.NoRuleDependsOnThePlatform :=
  fun _ _ p h => step_onPlatform p h

end Machine

end Sys2Proof
end

section
/-! PROOFS. Facts about the registers, the flags and the host's side that the statements of
10_state.md turn on: widths (R16, R18, R19), the bits of `STATUS` (R20), the registers a host reads
(R23, R25), what an instruction changes (R16 to R22), and how a property is carried along steps and
runs (R30). -/

namespace Sys2Proof

/-! ### Bits and decoding -/

/-- A number below `2 ^ k` has only zeros from bit `k` on. -/
theorem extractLsb'_eq_zero_of_lt {w k : Nat} {v : BitVec w} (h : v.toNat < 2 ^ k) (n : Nat) :
    v.extractLsb' k n = 0#n := by
  apply BitVec.eq_of_toNat_eq
  rw [BitVec.extractLsb'_toNat, Nat.shiftRight_eq_div_pow, Nat.div_eq_of_lt h]
  simp

/-- A packed word is decoded by its fields (30_encoding.md R48). -/
theorem decode_packWord (w : Dir) (off : Offset) (data : Word) :
    decode (packWord w off data) = decodeFields w off data := by
  rw [decode, wOf_packWord, offOf_packWord, dataOf_packWord]

/-! ### The computed values fit their registers -/

/-- A period computed from an operand in range fits `RES` bits (40_commands.md R61): with
`N ≤ D * 2^RES` the rounded quotient `N / D` is at most `2^RES`. -/
theorem Config.periodOf_lt {c : Config} {f : Nat} (h : c.inRange f) : c.periodOf f < 2 ^ c.res := by
  obtain ⟨hf, -, hN⟩ := h
  have hD : 0 < c.divisor f := c.divisor_pos f hf
  have hq : roundHalfUpDiv c.scaledOsc (c.divisor f) < 2 ^ c.res + 1 := by
    refine Nat.lt_of_mul_lt_mul_left (a := 2 * c.divisor f) ?_
    calc 2 * c.divisor f * roundHalfUpDiv c.scaledOsc (c.divisor f)
        ≤ 2 * c.scaledOsc + c.divisor f := (roundHalfUpDiv_bounds _ _ hD).1
      _ ≤ 2 * (c.divisor f * 2 ^ c.res) + c.divisor f := by omega
      _ < 2 * (c.divisor f * 2 ^ c.res) + 2 * c.divisor f := by omega
      _ = 2 * c.divisor f * (2 ^ c.res + 1) := by ring
  have := Nat.two_pow_pos c.res
  unfold Config.periodOf
  omega

/-- The duty value is at most full scale (40_commands.md R64). -/
theorem dutyOf_le_full_scale {pct : Nat} (h : pct ≤ 100) (period : Nat) :
    dutyOf pct period ≤ 4 * (period + 1) := by
  have lower := (dutyOf_bounds pct period).1
  have scale : pct * (period + 1) ≤ 100 * (period + 1) := Nat.mul_le_mul_right _ h
  rw [Nat.mul_assoc] at lower
  omega

/-- Full scale at the largest period is a power of two (10_state.md R18). -/
theorem Config.full_scale_pmax (c : Config) : 4 * (c.pmax + 1) = 2 ^ (c.res + 2) := by
  rw [Config.pmax, Nat.sub_add_cancel Nat.one_le_two_pow, pow_add]
  omega

/-! ### Configurations -/

/-- A configuration is its four parameters. -/
theorem Config.eq_of_parameters {c d : Config} (osc : c.oscHz = d.oscHz)
    (prescale : c.prescale = d.prescale) (res : c.res = d.res) (scale : c.freqScale = d.freqScale) :
    c = d := by
  cases c
  cases d
  cases osc
  cases prescale
  cases res
  cases scale
  rfl

namespace Machine

/-! ### The registers as numbers -/

section Registers

variable (s : State)

/-- `PERIOD` is at most `PMAX`, by its width (10_state.md R16). -/
theorem State.period_toNat_le : s.period.toNat ≤ 2 ^ s.cfg.res - 1 :=
  Nat.le_sub_one_of_lt s.period.isLt

/-- Full scale fits `DW` bits at every period (10_state.md R18). -/
theorem State.full_scale_lt : 4 * (s.period.toNat + 1) < 2 ^ (s.cfg.res + 3) := by
  have := s.period.isLt
  rw [pow_add]
  omega

/-- `PERIOD` holds a period computed from an operand in range unchanged. -/
theorem State.toNat_ofNat_periodOf {f : Nat} (h : s.cfg.inRange f) :
    (BitVec.ofNat s.cfg.res (s.cfg.periodOf f)).toNat = s.cfg.periodOf f := by
  rw [BitVec.toNat_ofNat, Nat.mod_eq_of_lt (Config.periodOf_lt h)]

/-- `DUTY` holds the duty value of a valid percentage unchanged. -/
theorem State.toNat_ofNat_dutyOf {pct : Nat} (h : pct ≤ 100) :
    (BitVec.ofNat (s.cfg.res + 3) (dutyOf pct s.period.toNat)).toNat =
      dutyOf pct s.period.toNat := by
  rw [BitVec.toNat_ofNat,
    Nat.mod_eq_of_lt ((dutyOf_le_full_scale h _).trans_lt s.full_scale_lt)]

/-- `DUTY_HI` is `DUTY >> 2`; its `RES + 1` bits lose nothing (10_state.md R19). -/
theorem State.dutyHi_toNat : s.dutyHi.toNat = s.duty.toNat / 4 := by
  have high : s.duty.toNat / 2 ^ 2 < 2 ^ (s.cfg.res + 1) := by
    rw [Nat.div_lt_iff_lt_mul (by decide), ← pow_add]
    exact s.duty.isLt
  rw [State.dutyHi, BitVec.extractLsb'_toNat, Nat.shiftRight_eq_div_pow, Nat.mod_eq_of_lt high]
  rfl

/-- `DUTY_LO` is the low two bits of `DUTY` (10_state.md R19). -/
theorem State.dutyLo_toNat : s.dutyLo.toNat = s.duty.toNat % 4 := by
  rw [State.dutyLo, BitVec.extractLsb'_toNat, Nat.shiftRight_zero]

/-! ### What a host reads -/

/-- `PERIOD` reads as its value (41_reads.md R73). -/
theorem State.readReg_period_toNat : (s.readReg .period).toNat = s.period.toNat :=
  BitVec.toNat_setWidth_of_le (s.cfg.res_legal.2.trans (by decide))

/-- `DUTY` reads as its value (41_reads.md R74). -/
theorem State.readReg_duty_toNat : (s.readReg .duty).toNat = s.duty.toNat :=
  BitVec.toNat_setWidth_of_le (by have := s.cfg.res_legal.2; omega)

/-- `CFG_OSC` reads as `OSC_HZ` (41_reads.md R78). -/
theorem State.readReg_cfgOsc_toNat : (s.readReg .cfgOsc).toNat = s.cfg.oscHz := by
  have := s.cfg.oscHz_legal.2
  rw [State.readReg, BitVec.toNat_ofNat]
  omega

/-- `CFG_PRESCALE` reads as `PRESCALE` (41_reads.md R79). -/
theorem State.readReg_cfgPrescale_toNat : (s.readReg .cfgPrescale).toNat = s.cfg.prescale := by
  have := s.cfg.prescale_legal.2
  rw [State.readReg, BitVec.toNat_setWidth_of_le (by decide), BitVec.toNat_ofNat]
  omega

/-- `CFG_RES` reads as `RES` (41_reads.md R80). -/
theorem State.readReg_cfgRes_toNat : (s.readReg .cfgRes).toNat = s.cfg.res := by
  have := s.cfg.res_legal.2
  rw [State.readReg, BitVec.toNat_setWidth_of_le (by decide), BitVec.toNat_ofNat]
  omega

/-- `CFG_FSCALE` reads as `FREQ_SCALE` (41_reads.md R81). -/
theorem State.readReg_cfgFscale_toNat : (s.readReg .cfgFscale).toNat = s.cfg.freqScale := by
  have := s.cfg.freqScale_legal.2
  rw [State.readReg, BitVec.toNat_setWidth_of_le (by decide), BitVec.toNat_ofNat]
  omega

/-! ### The bits of `STATUS` -/

/-- A bit of `STATUS`: `ERR` below, then `INIT`, then `DUTY_CUR` (10_state.md R20). -/
theorem State.statusBits_getLsbD (i : Nat) :
    s.statusBits.getLsbD i =
      if i < 2 then s.err.bits.getLsbD i
      else if i - 2 < 1 then (BitVec.ofBool s.init).getLsbD (i - 2)
      else (BitVec.ofBool s.dutyCur).getLsbD (i - 2 - 1) := by
  have fields : s.statusBits.getLsbD i =
      BitVec.getLsbD (w := 1 + 1 + 2)
        (BitVec.ofBool s.dutyCur ++ BitVec.ofBool s.init ++ s.err.bits) i := rfl
  rw [fields, BitVec.getLsbD_append, BitVec.getLsbD_append]

/-- Bits 1 to 0 of `STATUS` are `ERR`. -/
theorem State.statusWord_err : s.statusWord.extractLsb' 0 2 = s.err.bits := by
  apply BitVec.eq_of_getLsbD_eq
  intro i hi
  have hi' : i < 32 := by omega
  simp [State.statusWord, State.statusBits_getLsbD, hi, hi']

/-- Bit 2 of `STATUS` is `INIT`. -/
theorem State.statusWord_init : s.statusWord.getLsbD 2 = s.init := by
  rw [State.statusWord, BitVec.getLsbD_setWidth, State.statusBits_getLsbD]
  simp

/-- Bit 3 of `STATUS` is `DUTY_CUR`. -/
theorem State.statusWord_dutyCur : s.statusWord.getLsbD 3 = s.dutyCur := by
  rw [State.statusWord, BitVec.getLsbD_setWidth, State.statusBits_getLsbD]
  simp

/-- The bits of `STATUS` above `DUTY_CUR` are 0. -/
theorem State.statusWord_reserved : s.statusWord.extractLsb' 4 28 = 0#28 :=
  extractLsb'_eq_zero_of_lt (s.statusWord_toNat ▸ s.statusBits.isLt) 28

/-- `STATUS` is 0 after reset (10_state.md R20, R29). -/
theorem State.statusWord_resetOf (c : Config) (p : Platform) :
    (State.resetOf c p).statusWord = 0#32 := by
  apply BitVec.eq_of_toNat_eq
  rw [State.statusWord_toNat, State.statusBits_toNat]
  rfl

end Registers

/-- The codes of `STATUS.ERR` are all different. -/
theorem ErrCode.bits_injective {e e' : ErrCode} (h : e.bits = e'.bits) : e = e' := by
  revert h
  cases e <;> cases e' <;> decide

/-! ### What an instruction does to the block -/

/-- `WR FREQ_CMD` in range (40_commands.md R60). -/
theorem exec_wrFreqCmd_of_inRange {f : Word} {s : State} (hf : s.cfg.inRange f.toNat) :
    exec (.wrFreqCmd f) s = .next { s with
      period := BitVec.ofNat s.cfg.res (s.cfg.periodOf f.toNat)
      init := true, dutyCur := false, err := .noError
      responses := ⟨.okay, 0#32⟩ :: s.responses } :=
  congrArg _ (if_pos hf)

/-- `WR PCT_CMD` with a valid percentage after initialization (40_commands.md R63). -/
theorem exec_wrPctCmd_of_valid {pct : Word} {s : State} (hi : s.init = true)
    (hp : pct.toNat ≤ 100) :
    exec (.wrPctCmd pct) s = .next { s with
      duty := BitVec.ofNat (s.cfg.res + 3) (dutyOf pct.toNat s.period.toNat)
      dutyCur := true, err := .noError
      responses := ⟨.okay, 0#32⟩ :: s.responses } :=
  congrArg _ ((if_neg (by simp [hi])).trans (if_pos hp))

/-- `WR PCT_CMD` before initialization (40_commands.md R63, 60_exceptions.md R95). -/
theorem exec_wrPctCmd_of_not_init {s : State} (hi : s.init = false) (pct : Word) :
    exec (.wrPctCmd pct) s = .next { s with
      err := .notInitialized, responses := ⟨.cmdErr, 0#32⟩ :: s.responses } :=
  congrArg _ (if_pos hi)

/-- What an instruction leaves: an accepted `WR FREQ_CMD` writes `PERIOD` and the flags, an accepted
`WR PCT_CMD` writes `DUTY` and the flags, and every other instruction at most `ERR` beside its
response. -/
theorem exec_effects {i : Instr} {s t : State} (h : exec i s = .next t) :
    (∃ f, i = .wrFreqCmd f ∧ s.cfg.inRange f.toNat ∧ t = { s with
      period := BitVec.ofNat s.cfg.res (s.cfg.periodOf f.toNat)
      init := true, dutyCur := false, err := .noError
      responses := ⟨.okay, 0#32⟩ :: s.responses }) ∨
    (∃ pct, i = .wrPctCmd pct ∧ s.init = true ∧ pct.toNat ≤ 100 ∧ t = { s with
      duty := BitVec.ofNat (s.cfg.res + 3) (dutyOf pct.toNat s.period.toNat)
      dutyCur := true, err := .noError
      responses := ⟨.okay, 0#32⟩ :: s.responses }) ∨
    (∃ e r, t = { s with err := e, responses := r :: s.responses }) := by
  obtain ⟨f, rfl, hx⟩ | ⟨pct, rfl, hx⟩ | ⟨r, -, -, hx⟩ | ⟨-, hx⟩ := exec_cases i s <;>
    cases hx.symm.trans h
  case inl =>
    obtain ⟨hf, ht⟩ | ⟨-, ht⟩ := setFrequency_cases s f.toNat
    · exact .inl ⟨f, rfl, hf, ht⟩
    · exact .inr (.inr ⟨_, _, ht⟩)
  case inr.inl =>
    obtain ⟨hi, hp, ht⟩ | ⟨-, ht⟩ | ⟨-, -, ht⟩ := setDutyCycle_cases s pct.toNat
    · exact .inr (.inl ⟨pct, rfl, hi, hp, ht⟩)
    · exact .inr (.inr ⟨_, _, ht⟩)
    · exact .inr (.inr ⟨_, _, ht⟩)
  case inr.inr.inl => exact .inr (.inr ⟨_, _, performRead_eq s r⟩)
  case inr.inr.inr => exact .inr (.inr ⟨_, _, raiseBusError_eq s⟩)

/-- Every instruction is performed (60_exceptions.md R93). -/
theorem exec_total (i : Instr) (s : State) : ∃ t, exec i s = .next t := by
  obtain ⟨_, -, hx⟩ | ⟨_, -, hx⟩ | ⟨_, -, -, hx⟩ | ⟨-, hx⟩ := exec_cases i s <;> exact ⟨_, hx⟩

/-- `INIT` is never cleared by an instruction (10_state.md R17). -/
theorem exec_keeps_init {i : Instr} {s t : State} (h : exec i s = .next t) (hi : s.init = true) :
    t.init = true := by
  obtain ⟨f, -, -, rfl⟩ | ⟨pct, -, -, -, rfl⟩ | ⟨e, r, rfl⟩ := exec_effects h
  · rfl
  · exact hi
  · exact hi

/-! ### Properties of the block along steps and runs -/

/-- The state with another host beside the same block. -/
def State.withHost (s : State) (port : List HostEvent) (responses : List Response) (cutOffs : Nat) :
    State :=
  { s with port := port, responses := responses, cutOffs := cutOffs }

/-- Every step goes on (60_exceptions.md R93). -/
theorem step_total (s : State) : ∃ t, step s = .next t := by
  rcases hp : s.port with _ | ⟨⟨w⟩ | _ | ⟨w⟩, rest⟩
  · exact ⟨s, step_idle s hp⟩
  · rw [step_transaction s w rest hp]
    exact exec_total _ _
  · exact ⟨_, step_assertReset s rest hp⟩
  · obtain ⟨p, hx⟩ := exec_total (decode w) { s with port := rest }
    rw [step_resetDuring s w rest hp, hx]
    exact ⟨_, applyResetDuring_next _ p⟩

/-- A property that does not look at the host's side, holds after reset and is kept by every
instruction is kept by every step. -/
theorem step_keeps {P : State → Prop} {s t : State}
    (host : ∀ u port responses cutOffs, P u → P (u.withHost port responses cutOffs))
    (reset : ∀ u : State, P u.applyReset)
    (instr : ∀ i u v, P u → exec i u = .next v → P v)
    (hs : P s) (h : step s = .next t) : P t := by
  obtain ⟨-, rfl⟩ | ⟨w, rest, -, hx⟩ | ⟨rest, -, rfl⟩ | ⟨w, rest, p, -, -, rfl⟩ := step_cases h
  · exact hs
  · exact instr _ _ _ (host s rest _ _ hs) hx
  · exact reset _
  · exact host _ _ _ _ (reset { s with port := rest })

/-- A property that every step keeps is kept by every run. -/
theorem run_keeps {P : State → Prop} (hstep : ∀ u v, P u → step u = .next v → P v) (k : Nat)
    {s t : State} (hs : P s) (h : Sys2Proof.core.run k s = .next t) : P t := by
  induction k generalizing s with
  | zero =>
    cases (run_zero s).symm.trans h
    exact hs
  | succ k ih =>
    obtain ⟨u, hu⟩ := step_total s
    exact ih (hstep s u hs hu) ((run_succ k hu).symm.trans h)

/-- A property that holds at every reset and is kept by every step holds in every reachable
state. -/
theorem State.Reachable.induction {P : State → Prop}
    (reset : ∀ c p events, P { State.resetOf c p with port := events })
    (hstep : ∀ u v, P u → step u = .next v → P v) {s : State} (h : s.Reachable) : P s := by
  obtain ⟨c, p, events, k, hrun⟩ := h
  exact run_keeps hstep k (reset c p events) hrun

end Machine

end Sys2Proof
end

section
/-! PROOFS. The statements of 10_state.md. -/

namespace Sys2Proof.Machine

/-! ### The invariants (R30) -/

/-- The invariants do not look at `ERR`. -/
theorem State.Inv.with_err {s : State} (h : s.Inv) (e : ErrCode) :
    ({ s with err := e } : State).Inv :=
  ⟨h.period_le, h.period_zero, h.duty_lt, h.dutyCur_init, h.dutyCur_duty⟩

/-- The invariants do not look at the host's side. -/
theorem State.Inv.withHost {s : State} (h : s.Inv) (port : List HostEvent)
    (responses : List Response) (cutOffs : Nat) : (s.withHost port responses cutOffs).Inv :=
  ⟨h.period_le, h.period_zero, h.duty_lt, h.dutyCur_init, h.dutyCur_duty⟩

/-- Reset establishes the invariants from any state: `PERIOD` is 0 and `DUTY_CUR` is clear. -/
theorem State.inv_applyReset (s : State) : s.applyReset.Inv where
  period_le := s.applyReset.period_toNat_le
  period_zero _ := rfl
  duty_lt := s.applyReset.duty.isLt
  dutyCur_init h := by cases h
  dutyCur_duty h := by cases h

/-- The reset state has the invariants: it is what reset makes of itself. -/
theorem State.inv_resetOf (c : Config) (p : Platform) : (State.resetOf c p).Inv :=
  (State.resetOf c p).inv_applyReset

/-- Every instruction keeps the invariants. An accepted `WR FREQ_CMD` clears `DUTY_CUR`, so it owes
nothing about the stale duty; an accepted `WR PCT_CMD` owes the two facts about the duty of the
period it leaves alone. -/
theorem exec_keeps_inv (i : Instr) (s t : State) (hs : s.Inv) (h : exec i s = .next t) : t.Inv := by
  obtain ⟨f, -, -, rfl⟩ | ⟨pct, -, hi, hp, rfl⟩ | ⟨e, r, rfl⟩ := exec_effects h
  · exact {
      period_le := State.period_toNat_le _
      period_zero := fun h => by cases h
      duty_lt := hs.duty_lt
      dutyCur_init := fun h => by cases h
      dutyCur_duty := fun h => by cases h }
  · have duty := s.toNat_ofNat_dutyOf hp
    exact {
      period_le := hs.period_le
      period_zero := hs.period_zero
      duty_lt := BitVec.isLt _
      dutyCur_init := fun _ => ⟨hi, duty.trans_le (dutyOf_le_full_scale hp _)⟩
      dutyCur_duty := fun _ => ⟨pct.toNat, hp, duty⟩ }
  · exact (hs.with_err e).withHost s.port (r :: s.responses) s.cutOffs

/-- Settles O46: the invariants look at no host side, hold after reset and are kept by every
instruction. -/
theorem everyStepKeepsTheInvariants : Obligations.EveryStepKeepsTheInvariants :=
  fun _ _ hs h => step_keeps (fun _ p r n hu => hu.withHost p r n) State.inv_applyReset
    exec_keeps_inv hs h

/-- Settles O45: `State.reset` is the reset state of the default configuration. -/
theorem invariantsHoldAtReset : Obligations.InvariantsHoldAtReset :=
  ⟨State.inv_resetOf, State.inv_resetOf _ _⟩

/-- Settles O47, by O46 along the run from reset. -/
theorem invariantsHoldWhenReachable : Obligations.InvariantsHoldWhenReachable := by
  intro s hs
  have inv : s.Inv := hs.induction
    (fun c p events => (State.inv_resetOf c p).withHost events [] 0) everyStepKeepsTheInvariants
  exact ⟨inv.period_le, inv.period_zero, inv.duty_lt, inv.dutyCur_init, inv.dutyCur_duty⟩

/-! ### `PERIOD` (R16) -/

/-- Settles O36, from the accepted `WR FREQ_CMD` and the effects of every other instruction. -/
theorem periodWrittenOnlyBySetFrequency : Obligations.PeriodWrittenOnlyBySetFrequency := by
  refine ⟨fun i s t h => ⟨?_, fun other => ?_⟩,
    fun s => ⟨s.period_toNat_le, s.readReg_period_toNat, fun _ => rfl, fun _ => rfl⟩,
    fun _ _ => rfl⟩
  · rintro f rfl hf
    cases (exec_wrFreqCmd_of_inRange hf).symm.trans h
    exact s.toNat_ofNat_periodOf hf
  · obtain ⟨f, hi, hf, -⟩ | ⟨pct, -, -, -, rfl⟩ | ⟨e, r, rfl⟩ := exec_effects h
    · exact absurd ⟨f, hi, hf⟩ other
    · rfl
    · rfl

/-! ### `STATUS.INIT` (R17) -/

/-- While `INIT` is set, `PERIOD` holds a computed period. -/
def State.InitMeansComputed (s : State) : Prop := s.init = true → s.PeriodComputed

/-- Every instruction keeps it that `INIT` means a computed period. -/
theorem exec_keeps_initMeansComputed (i : Instr) (s t : State) (hs : s.InitMeansComputed)
    (h : exec i s = .next t) : t.InitMeansComputed := by
  obtain ⟨f, -, hf, rfl⟩ | ⟨pct, -, -, -, rfl⟩ | ⟨e, r, rfl⟩ := exec_effects h
  · exact fun _ => ⟨f, hf, s.toNat_ofNat_periodOf hf⟩
  · exact hs
  · exact hs

/-- Every step keeps it that `INIT` means a computed period: after reset `INIT` is clear. -/
theorem step_keeps_initMeansComputed {s t : State} (hs : s.InitMeansComputed)
    (h : step s = .next t) : t.InitMeansComputed :=
  step_keeps (fun _ _ _ _ hu => hu) (fun _ h => by cases h) exec_keeps_initMeansComputed hs h

/-- A step that clears `INIT` is a reset. -/
theorem reset_of_step_clears_init {s t : State} (h : step s = .next t) (hs : s.init = true)
    (ht : t.init = false) :
    ∃ rest, s.port = .assertReset :: rest ∨ ∃ w, s.port = .resetDuring w :: rest := by
  obtain ⟨-, rfl⟩ | ⟨w, rest, -, hx⟩ | ⟨rest, hp, -⟩ | ⟨w, rest, p, hp, -, -⟩ := step_cases h
  · exact absurd hs (by simp [ht])
  · exact absurd (exec_keeps_init hx hs) (by simp [ht])
  · exact ⟨rest, .inl hp⟩
  · exact ⟨rest, .inr ⟨w, hp⟩⟩

/-- Settles O37, from the effects of an instruction and the two lemmas above on steps. -/
theorem initSetBySetFrequencyClearedByReset : Obligations.InitSetBySetFrequencyClearedByReset := by
  refine ⟨fun i s t h => ⟨?_, fun other => ?_⟩, fun _ _ => reset_of_step_clears_init,
    fun s pct hi => ⟨_, exec_wrPctCmd_of_not_init hi pct, rfl, rfl⟩, fun _ _ => rfl,
    fun _ _ => step_keeps_initMeansComputed⟩
  · rintro f rfl hf
    cases (exec_wrFreqCmd_of_inRange hf).symm.trans h
    rfl
  · obtain ⟨f, hi, hf, -⟩ | ⟨pct, -, -, -, rfl⟩ | ⟨e, r, rfl⟩ := exec_effects h
    · exact absurd ⟨f, hi, hf⟩ other
    · rfl
    · rfl

/-! ### `DUTY` (R18, R19) -/

/-- Settles O38: the duty value of a valid percentage is at most full scale, which fits `DW`
bits. -/
theorem dutyWrittenOnlyBySetDutyCycle : Obligations.DutyWrittenOnlyBySetDutyCycle := by
  refine ⟨fun i s t h => ⟨?_, fun other => ?_⟩,
    fun s => ⟨s.readReg_duty_toNat, fun _ => rfl, fun _ => rfl⟩,
    fun c => ⟨c.full_scale_pmax, Nat.pow_lt_pow_right (by decide) (by omega)⟩, fun _ _ => rfl⟩
  · rintro pct rfl hi hp
    cases (exec_wrPctCmd_of_valid hi hp).symm.trans h
    have duty := s.toNat_ofNat_dutyOf hp
    exact ⟨duty, duty.trans_le (dutyOf_le_full_scale hp _)⟩
  · obtain ⟨f, -, -, rfl⟩ | ⟨pct, hx, hi, hp, -⟩ | ⟨e, r, rfl⟩ := exec_effects h
    · rfl
    · exact absurd ⟨pct, hx, hi, hp⟩ other
    · rfl

/-- Settles O39: both views are the quotient and the remainder of `DUTY` by 4. -/
theorem dutySplitsIntoHighAndLow : Obligations.DutySplitsIntoHighAndLow := by
  intro s
  have hi := s.dutyHi_toNat
  have lo := s.dutyLo_toNat
  refine ⟨hi, s.dutyHi.isLt, lo, ?_, fun full => ?_, fun _ below => ?_⟩ <;> omega

/-! ### `STATUS` (R20 to R22) -/

/-- Settles O40, field by field from the bits of `STATUS`. -/
theorem statusFieldLayout : Obligations.StatusFieldLayout :=
  ⟨fun s => ⟨s.statusWord_err, s.statusWord_init, s.statusWord_dutyCur, s.statusWord_reserved,
    fun _ => rfl, fun _ => rfl⟩, State.statusWord_resetOf⟩

/-- Settles O41: the outcomes of each command, and the frame of every other instruction. -/
theorem errReportsTheLastCommand : Obligations.ErrReportsTheLastCommand := by
  refine ⟨⟨rfl, rfl, rfl, rfl⟩, fun i s t h => ?_⟩
  obtain ⟨f, rfl, hx⟩ | ⟨pct, rfl, hx⟩ | ⟨r, hc, -, hx⟩ | ⟨hc, hx⟩ := exec_cases i s <;>
    cases hx.symm.trans h
  case inl =>
    refine ⟨fun _ => ?_, fun other => absurd rfl other⟩
    obtain ⟨-, ht⟩ | ⟨-, ht⟩ := setFrequency_cases s f.toNat <;> rw [ht]
    · exact .inl ⟨rfl, rfl⟩
    · exact .inr (.inl ⟨rfl, rfl, f, rfl⟩)
  case inr.inl =>
    refine ⟨fun _ => ?_, fun other => absurd rfl other⟩
    obtain ⟨-, -, ht⟩ | ⟨-, ht⟩ | ⟨-, -, ht⟩ := setDutyCycle_cases s pct.toNat <;> rw [ht]
    · exact .inl ⟨rfl, rfl⟩
    · exact .inr (.inr (.inl ⟨rfl, rfl, pct, rfl⟩))
    · exact .inr (.inr (.inr ⟨rfl, rfl, pct, rfl⟩))
  case inr.inr.inl | inr.inr.inr =>
    exact ⟨fun command => absurd (hc.symm.trans command) (by decide), fun _ => rfl⟩

/-- Settles O42, from the two accepted commands and the effects of every other instruction. -/
theorem dutyCurShowsACurrentDuty : Obligations.DutyCurShowsACurrentDuty := by
  refine ⟨fun i s t h => ⟨?_, ?_, fun noDuty noFrequency => ?_⟩, fun _ _ => rfl⟩
  · rintro pct rfl hi hp
    cases (exec_wrPctCmd_of_valid hi hp).symm.trans h
    rfl
  · rintro f rfl hf
    cases (exec_wrFreqCmd_of_inRange hf).symm.trans h
    rfl
  · obtain ⟨f, hi, hf, -⟩ | ⟨pct, hx, hi, hp, -⟩ | ⟨e, r, rfl⟩ := exec_effects h
    · exact absurd ⟨f, hi, hf⟩ noFrequency
    · exact absurd ⟨pct, hx, hi, hp⟩ noDuty
    · rfl

/-! ### The configuration registers (R23) and the reset values (R29) -/

/-- No step changes what a configuration register reads. -/
theorem step_readReg_cfg {s t : State} (h : step s = .next t) :
    t.readReg .cfgOsc = s.readReg .cfgOsc ∧ t.readReg .cfgPrescale = s.readReg .cfgPrescale ∧
      t.readReg .cfgRes = s.readReg .cfgRes ∧ t.readReg .cfgFscale = s.readReg .cfgFscale := by
  simp only [State.readReg, step_cfg h, and_self]

/-- Settles O31: each parameter fits its register by its legal range, and no step changes it. -/
theorem configurationReadsReturnParameters : Obligations.ConfigurationReadsReturnParameters := by
  intro data s
  have prescale := s.readReg_cfgPrescale_toNat
  have res := s.readReg_cfgRes_toNat
  have scale := s.readReg_cfgFscale_toNat
  have prescale_le := s.cfg.prescale_legal.2
  have res_le := s.cfg.res_legal.2
  have scale_le := s.cfg.freqScale_legal.2
  refine ⟨⟨decode_packWord _ _ _, _, rfl, s.readReg_cfgOsc_toNat, fun h => ?_⟩,
    ⟨decode_packWord _ _ _, _, rfl, prescale, extractLsb'_eq_zero_of_lt (by omega) _,
      fun h => ?_⟩,
    ⟨decode_packWord _ _ _, _, rfl, res, extractLsb'_eq_zero_of_lt (by omega) _, fun h => ?_⟩,
    ⟨decode_packWord _ _ _, _, rfl, scale, extractLsb'_eq_zero_of_lt (by omega) _,
      fun h => ?_⟩,
    ⟨rfl, rfl, rfl, rfl⟩, fun _ => step_readReg_cfg⟩ <;>
  · rw [State.readReg, h]
    rfl

/-- Settles O44: the views of `DUTY` from its value, the configuration as a host reads it. -/
theorem resetValues : Obligations.ResetValues := by
  intro c p s
  have duty : s.duty.toNat = 0 := rfl
  exact ⟨rfl, duty, by rw [s.dutyHi_toNat, duty], by rw [s.dutyLo_toNat, duty], rfl, rfl, rfl,
    s.readReg_cfgOsc_toNat, s.readReg_cfgPrescale_toNat, s.readReg_cfgRes_toNat,
    s.readReg_cfgFscale_toNat⟩

/-! ### No hidden state (R13, R28) -/

/-- The configuration is what a host reads of it. -/
theorem cfg_eq_of_readReg {s t : State} (h : ∀ r, s.readReg r = t.readReg r) : s.cfg = t.cfg := by
  have reads (r : Reg) : (s.readReg r).toNat = (t.readReg r).toNat := congrArg _ (h r)
  apply Config.eq_of_parameters
  · simpa only [State.readReg_cfgOsc_toNat] using reads .cfgOsc
  · simpa only [State.readReg_cfgPrescale_toNat] using reads .cfgPrescale
  · simpa only [State.readReg_cfgRes_toNat] using reads .cfgRes
  · simpa only [State.readReg_cfgFscale_toNat] using reads .cfgFscale

/-- Blocks of one configuration and platform with the same five parts are the same block. -/
theorem block_eq_of_parts {s t : State} (cfg : s.cfg = t.cfg) (platform : s.platform = t.platform)
    (period : s.period.toNat = t.period.toNat) (duty : s.duty.toNat = t.duty.toNat)
    (err : s.err = t.err) (init : s.init = t.init) (dutyCur : s.dutyCur = t.dutyCur) :
    s.block = t.block := by
  cases s
  cases t
  cases cfg
  cases platform
  cases BitVec.eq_of_toNat_eq period
  cases BitVec.eq_of_toNat_eq duty
  cases err
  cases init
  cases dutyCur
  rfl

/-- Every part of the block can be read: `PERIOD` and `DUTY` whole, the flags from `STATUS`. -/
theorem block_eq_of_readReg {s t : State} (platform : s.platform = t.platform)
    (h : ∀ r, s.readReg r = t.readReg r) : s.block = t.block := by
  have status : s.statusWord = t.statusWord := h .status
  apply block_eq_of_parts (cfg_eq_of_readReg h) platform
  · rw [← s.readReg_period_toNat, h, t.readReg_period_toNat]
  · rw [← s.readReg_duty_toNat, h, t.readReg_duty_toNat]
  · apply ErrCode.bits_injective
    rw [← s.statusWord_err, status, t.statusWord_err]
  · rw [← s.statusWord_init, status, t.statusWord_init]
  · rw [← s.statusWord_dutyCur, status, t.statusWord_dutyCur]

/-- `set_frequency` does to the block alone what it does beside any host. -/
theorem State.setFrequency_block (s : State) (f : Nat) :
    ∃ r, (s.setFrequency f).responses = r :: s.responses ∧ (s.setFrequency f).port = s.port ∧
      s.block.setFrequency f = (s.setFrequency f).withHost [] [r] 0 := by
  obtain ⟨hf, h⟩ | ⟨hf, h⟩ := setFrequency_cases s f <;> rw [h]
  · exact ⟨_, rfl, rfl, if_pos hf⟩
  · exact ⟨_, rfl, rfl, if_neg hf⟩

/-- `set_duty_cycle` does to the block alone what it does beside any host. -/
theorem State.setDutyCycle_block (s : State) (pct : Nat) :
    ∃ r, (s.setDutyCycle pct).responses = r :: s.responses ∧ (s.setDutyCycle pct).port = s.port ∧
      s.block.setDutyCycle pct = (s.setDutyCycle pct).withHost [] [r] 0 := by
  obtain ⟨hi, hp, h⟩ | ⟨hi, h⟩ | ⟨hi, hp, h⟩ := setDutyCycle_cases s pct <;> rw [h]
  · exact ⟨_, rfl, rfl, (if_neg (by simp [State.block, hi])).trans (if_pos hp)⟩
  · exact ⟨_, rfl, rfl, if_pos hi⟩
  · exact ⟨_, rfl, rfl, (if_neg (by simp [State.block, hi])).trans (if_neg hp)⟩

/-- A register of the block reads the same beside any host. -/
theorem State.readReg_block (s : State) (r : Reg) : s.block.readReg r = s.readReg r := by
  cases r <;> rfl

/-- An instruction gives one response, takes nothing off the port, and does to the block alone what
it does beside any host. -/
theorem exec_block {i : Instr} {s u : State} (h : exec i s = .next u) :
    ∃ r, u.responses = r :: s.responses ∧ u.port = s.port ∧
      exec i s.block = .next (u.withHost [] [r] 0) := by
  obtain ⟨f, rfl, hx⟩ | ⟨pct, rfl, hx⟩ | ⟨reg, -, hr, hx⟩ | ⟨hc, hx⟩ := exec_cases i s <;>
    cases hx.symm.trans h
  case inl =>
    obtain ⟨r, responses, port, block⟩ := s.setFrequency_block f.toNat
    exact ⟨r, responses, port, congrArg _ block⟩
  case inr.inl =>
    obtain ⟨r, responses, port, block⟩ := s.setDutyCycle_block pct.toNat
    exact ⟨r, responses, port, congrArg _ block⟩
  case inr.inr.inl =>
    refine ⟨⟨.okay, s.readReg reg⟩, rfl, rfl, ?_⟩
    rw [exec_of_readTarget hr, performRead_eq, State.readReg_block]
    rfl
  case inr.inr.inr => exact ⟨⟨.busErr, 0#32⟩, rfl, rfl, exec_of_busError hc s.block⟩

/-- Equal blocks answer an instruction alike: both answers are that of the block alone. -/
theorem exec_of_block_eq {i : Instr} {s t u v : State} (same : s.block = t.block)
    (hu : exec i s = .next u) (hv : exec i t = .next v) :
    u.block = v.block ∧ u.lastResponse = v.lastResponse ∧ u.port = s.port := by
  obtain ⟨r, hr, port, su⟩ := exec_block hu
  obtain ⟨r', hr', -, tv⟩ := exec_block hv
  have answers : u.withHost [] [r] 0 = v.withHost [] [r'] 0 := by
    rw [same, tv] at su
    exact (Host.Outcome.next.inj su).symm
  have block : (u.withHost [] [r] 0).block = (v.withHost [] [r'] 0).block :=
    congrArg State.block answers
  have last : u.lastResponse = v.lastResponse :=
    calc u.lastResponse = some r := congrArg List.head? hr
      _ = some r' := congrArg State.lastResponse answers
      _ = v.lastResponse := (congrArg List.head? hr').symm
  exact ⟨block, last, port⟩

/-- Settles O43: every part of the block can be read, and equal blocks answer alike. -/
theorem noHiddenState : Obligations.NoHiddenState :=
  ⟨fun _ _ => block_eq_of_readReg, fun _ _ _ _ _ => exec_of_block_eq⟩

end Sys2Proof.Machine
end

section
/-! PROOFS. Facts about instructions, the port and merged lists that the statements of 20_memory.md
turn on: the decode of an encoding (R36), rejected commands (R37), what an instruction does beside
another host (R37, R40), and lists of events marked with their masters (R40). -/

namespace Sys2Proof

/-! ### Decoding -/

/-- No register lies above `CFG_FSCALE` (10_state.md R25). -/
theorem Reg.ofOffset_eq_none {off : Offset} (h : 0x28 < off.toNat) : Reg.ofOffset off = none := by
  have ne (k : Offset) (hk : k.toNat ≤ 0x28) : off ≠ k := fun same => by
    rw [same] at h
    omega
  simp [Reg.ofOffset, ne]

/-- An aligned offset above the registers is decoded by the reserved rows (30_encoding.md R48). -/
theorem decodeFields_of_reserved {off : Offset} (low : off.extractLsb' 0 2 = 0b00#2)
    (above : 0x28 < off.toNat) (w : Dir) (data : Word) :
    decodeFields w off data = decodeReserved w off data := by
  simp [decodeFields, low, decodeAligned, Reg.ofOffset_eq_none above]

/-- A field of an offset as a number. -/
theorem Offset.field_eq_iff (off : Offset) (k n : Nat) (v : BitVec n) :
    off.extractLsb' k n = v ↔ off.toNat / 2 ^ k % 2 ^ n = v.toNat := by
  rw [← BitVec.toNat_inj, BitVec.extractLsb'_toNat, Nat.shiftRight_eq_div_pow]

/-- The four reserved rows by the number of the offset (30_encoding.md R49). -/
theorem decodeReserved_eq (w : Dir) (off : Offset) (data : Word) :
    decodeReserved w off data =
      if off.toNat = 44 then .reserved00101100 w off data
      else if off.toNat / 16 % 16 = 3 then .reserved0011xx00 w off data
      else if off.toNat / 64 % 4 = 1 then .reserved01xxxx00 w off data
      else .reserved1xxxxx00 w off data := by
  simp only [decodeReserved, ← BitVec.toNat_inj, BitVec.extractLsb'_toNat,
    Nat.shiftRight_eq_div_pow]
  rfl

/-- A well-formed instruction is decoded from its encoding (30_encoding.md R48). A mapped row fixes
the offset the decoder compares; a misaligned or reserved row carries an offset of its own pattern,
which excludes the rows looked at before it. -/
theorem decode_encode {i : Instr} (h : i.wellFormed = true) : decode (encode i) = i := by
  rw [encode, decode_packWord]
  cases i with
  | misaligned01 w off data | misaligned10 w off data | misaligned11 w off data =>
    have low : off.extractLsb' 0 2 = _ := eq_of_beq h
    simp [Instr.offField, decodeFields, low, Instr.wField, Instr.dataField]
  | reserved00101100 w off data =>
    obtain rfl : off = 0b00101100#8 := eq_of_beq h
    exact (decodeFields_of_reserved (off := 0b00101100#8) (by decide) (by decide) w data).trans
      (if_pos rfl)
  | reserved0011xx00 w off data =>
    obtain ⟨high, low⟩ := Bool.and_eq_true_iff.mp h
    have field : off.toNat / 16 % 16 = 3 := (Offset.field_eq_iff off 4 4 _).mp (eq_of_beq high)
    calc decodeFields w off data
        = decodeReserved w off data := decodeFields_of_reserved (eq_of_beq low) (by omega) w data
      _ = _ := decodeReserved_eq w off data
      _ = .reserved0011xx00 w off data := (if_neg (by omega)).trans (if_pos field)
  | reserved01xxxx00 w off data =>
    obtain ⟨high, low⟩ := Bool.and_eq_true_iff.mp h
    have field : off.toNat / 64 % 4 = 1 := (Offset.field_eq_iff off 6 2 _).mp (eq_of_beq high)
    calc decodeFields w off data
        = decodeReserved w off data := decodeFields_of_reserved (eq_of_beq low) (by omega) w data
      _ = _ := decodeReserved_eq w off data
      _ = .reserved01xxxx00 w off data :=
        (if_neg (by omega)).trans ((if_neg (by omega)).trans (if_pos field))
  | reserved1xxxxx00 w off data =>
    obtain ⟨high, low⟩ := Bool.and_eq_true_iff.mp h
    have field : off.toNat / 128 % 2 = 1 := (Offset.field_eq_iff off 7 1 _).mp (eq_of_beq high)
    calc decodeFields w off data
        = decodeReserved w off data := decodeFields_of_reserved (eq_of_beq low) (by omega) w data
      _ = _ := decodeReserved_eq w off data
      _ = .reserved1xxxxx00 w off data :=
        (if_neg (by omega)).trans ((if_neg (by omega)).trans (if_neg (by omega)))
  | _ =>
    simp [Instr.wField, Instr.offField, Instr.dataField, decodeFields, decodeAligned, Reg.ofOffset,
      decodeRead, decodeWrite]

/-- The reserved rows are bus errors (30_encoding.md R49). -/
theorem decodeReserved_cls (w : Dir) (off : Offset) (data : Word) :
    (decodeReserved w off data).cls = .busError := by
  unfold decodeReserved
  split_ifs <;> rfl

/-- A mapped offset is read by a read instruction (30_encoding.md R49). -/
theorem decodeRead_cls (data : Word) (r : Reg) : (decodeRead data r).cls = .read := by
  cases r <;> rfl

/-- A read transaction is never a command (30_encoding.md R48). -/
theorem decodeFields_read_cls (off : Offset) (data : Word) :
    (decodeFields .read off data).cls ≠ .command := by
  unfold decodeFields
  split_ifs
  · exact nofun
  · exact nofun
  · exact nofun
  · unfold decodeAligned
    cases Reg.ofOffset off with
    | none => simp [decodeReserved_cls]
    | some r => simp [decodeRead_cls]

/-! ### The window -/

/-- The offset of an address `k` bytes into the window (20_memory.md R32). -/
theorem Platform.offsetOf_base_add (p : Platform) (k : Nat) :
    p.offsetOf (p.base + k) = BitVec.ofNat 8 k := by
  rw [Platform.offsetOf, Nat.cast_add, add_sub_cancel_left, BitVec.ofInt_natCast]

namespace Machine

/-! ### Rejected commands -/

/-- `WR FREQ_CMD` out of range (40_commands.md R60). -/
theorem exec_wrFreqCmd_of_not_inRange {f : Word} {s : State} (hf : ¬ s.cfg.inRange f.toNat) :
    exec (.wrFreqCmd f) s = .next { s with
      err := .outOfRange, responses := ⟨.cmdErr, 0#32⟩ :: s.responses } :=
  congrArg _ (if_neg hf)

/-- `WR PCT_CMD` with a percentage above 100 after initialization (40_commands.md R63). -/
theorem exec_wrPctCmd_of_invalid {pct : Word} {s : State} (hi : s.init = true)
    (hp : ¬ pct.toNat ≤ 100) :
    exec (.wrPctCmd pct) s = .next { s with
      err := .invalidPercentage, responses := ⟨.cmdErr, 0#32⟩ :: s.responses } :=
  congrArg _ ((if_neg (by simp [hi])).trans (if_neg hp))

/-! ### An instruction beside another host -/

/-- A register reads the same beside any host. -/
theorem State.readReg_withHost (s : State) (port : List HostEvent) (responses : List Response)
    (cutOffs : Nat) (r : Reg) : (s.withHost port responses cutOffs).readReg r = s.readReg r := by
  cases r <;> rfl

/-- An instruction that is no command gives a response that depends on the block alone, and leaves
everything else (20_memory.md R37). -/
theorem exec_of_not_command {i : Instr} (h : i.cls ≠ .command) (s : State) :
    ∃ r, ∀ responses, exec i { s with responses := responses } =
      .next { s with responses := r :: responses } := by
  obtain ⟨f, rfl, -⟩ | ⟨pct, rfl, -⟩ | ⟨reg, -, hr, -⟩ | ⟨hc, -⟩ := exec_cases i s
  · exact absurd rfl h
  · exact absurd rfl h
  · refine ⟨⟨.okay, s.readReg reg⟩, fun responses => ?_⟩
    have value : ({ s with responses := responses } : State).readReg reg = s.readReg reg :=
      s.readReg_withHost s.port responses s.cutOffs reg
    rw [exec_of_readTarget hr, performRead_eq, value]
  · exact ⟨⟨.busErr, 0#32⟩, fun responses => exec_of_busError hc _⟩

/-- An instruction neither looks at what is still to come on the port nor changes it. -/
theorem exec_with_port {i : Instr} {s t : State} (port : List HostEvent)
    (h : exec i s = .next t) : exec i { s with port := port } = .next { t with port := port } := by
  obtain ⟨f, rfl, hx⟩ | ⟨pct, rfl, hx⟩ | ⟨reg, -, hr, hx⟩ | ⟨hc, hx⟩ := exec_cases i s <;>
    cases hx.symm.trans h
  case inl =>
    obtain ⟨hf, ht⟩ | ⟨hf, ht⟩ := setFrequency_cases s f.toNat <;> rw [ht]
    · exact exec_wrFreqCmd_of_inRange hf
    · exact exec_wrFreqCmd_of_not_inRange hf
  case inr.inl =>
    obtain ⟨hi, hp, ht⟩ | ⟨hi, ht⟩ | ⟨hi, hp, ht⟩ := setDutyCycle_cases s pct.toNat <;> rw [ht]
    · exact exec_wrPctCmd_of_valid hi hp
    · exact exec_wrPctCmd_of_not_init (by exact hi) pct
    · exact exec_wrPctCmd_of_invalid hi hp
  case inr.inr.inl =>
    have value : ({ s with port := port } : State).readReg reg = s.readReg reg :=
      s.readReg_withHost port s.responses s.cutOffs reg
    rw [exec_of_readTarget hr, performRead_eq, performRead_eq, value]
  case inr.inr.inr => exact exec_of_busError hc _

/-- Performing a transaction is what its instruction answers. -/
theorem exec_decode_eq_perform (s : State) (t : TransactionWord) :
    exec (decode t) s = .next (s.perform t) := by
  obtain ⟨u, hu⟩ := exec_total (decode t) s
  rw [State.perform, hu]

/-! ### Events marked with their masters -/

section Marked

variable {α : Type}

/-- The events of a marked list with one mark, in order (20_memory.md R40). -/
def eventsOf {n : Nat} (k : Fin n) (l : List (Fin n × α)) : List α :=
  (l.filter fun e => e.1 == k).map Prod.snd

section

variable {n : Nat} (x : α) (l : List (Fin n × α))

theorem eventsOf_cons (j k : Fin n) :
    eventsOf k ((j, x) :: l) = if j = k then x :: eventsOf k l else eventsOf k l := by
  by_cases h : j = k <;> simp [eventsOf, h]

theorem eventsOf_cons_self (k : Fin n) : eventsOf k ((k, x) :: l) = x :: eventsOf k l := by
  rw [eventsOf_cons, if_pos rfl]

theorem eventsOf_cons_of_ne {j k : Fin n} (h : j ≠ k) :
    eventsOf k ((j, x) :: l) = eventsOf k l := by
  rw [eventsOf_cons, if_neg h]

end

/-- The events of the masters after the first, marked anew from 0. -/
def laterEvents {n : Nat} (l : List (Fin (n + 1) × α)) : List (Fin n × α) :=
  l.filterMap fun e => Fin.cases none (fun k => some (k, e.2)) e.1

section

variable {n : Nat} (x : α) (l : List (Fin (n + 1) × α))

theorem laterEvents_cons_zero : laterEvents ((0, x) :: l) = laterEvents l := rfl

theorem laterEvents_cons_succ (k : Fin n) :
    laterEvents ((k.succ, x) :: l) = (k, x) :: laterEvents l := rfl

end

/-- A later master keeps its events, in order. -/
theorem eventsOf_laterEvents {n : Nat} (k : Fin n) (l : List (Fin (n + 1) × α)) :
    eventsOf k (laterEvents l) = eventsOf k.succ l := by
  induction l with
  | nil => rfl
  | cons e l ih =>
    obtain ⟨j, x⟩ := e
    cases j using Fin.cases with
    | zero => rw [laterEvents_cons_zero, ih, eventsOf_cons_of_ne x l (Fin.succ_ne_zero k).symm]
    | succ j =>
      rw [laterEvents_cons_succ, eventsOf_cons, eventsOf_cons, ih]
      simp only [Fin.succ_inj]

/-- A marked list is the merge of the first master's events with all later events, in the order of
its marks. -/
theorem interleave_eventsOf_zero {n : Nat} (l : List (Fin (n + 1) × α)) :
    interleave (l.map fun e => e.1 == 0) (eventsOf 0 l) ((laterEvents l).map Prod.snd) =
      l.map Prod.snd := by
  induction l with
  | nil => rfl
  | cons e l ih =>
    obtain ⟨j, x⟩ := e
    cases j using Fin.cases with
    | zero =>
      rw [eventsOf_cons_self, laterEvents_cons_zero]
      exact congrArg (x :: ·) ih
    | succ j =>
      rw [eventsOf_cons_of_ne x l (Fin.succ_ne_zero j), laterEvents_cons_succ]
      exact congrArg (x :: ·) ih

/-- A list with two marks is the merge of the two parts, in the order of its marks. -/
theorem interleave_filter (l : List (Bool × α)) :
    interleave (l.map Prod.fst) ((l.filter fun e => e.1).map Prod.snd)
      ((l.filter fun e => !e.1).map Prod.snd) = l.map Prod.snd := by
  induction l with
  | nil => rfl
  | cons e l ih =>
    obtain ⟨mark, x⟩ := e
    cases mark with
    | true => exact congrArg (x :: ·) ih
    | false => exact congrArg (x :: ·) ih

/-- A merge of two lists holds the events of both and no others. -/
theorem interleave_perm (sched : List Bool) (a b : List α) :
    (interleave sched a b).Perm (a ++ b) := by
  obtain ⟨l, order, rfl, rfl⟩ := interleave_cases sched a b
  rw [← order, ← List.map_append]
  exact (List.filter_append_perm _ l).symm.map _

/-- A merge of two lists keeps the order of the first. -/
theorem sublist_interleave_left (sched : List Bool) (a b : List α) :
    a.Sublist (interleave sched a b) := by
  obtain ⟨l, order, rfl, -⟩ := interleave_cases sched a b
  rw [← order]
  exact List.filter_sublist.map _

/-- A merge of two lists keeps the order of the second. -/
theorem sublist_interleave_right (sched : List Bool) (a b : List α) :
    b.Sublist (interleave sched a b) := by
  obtain ⟨l, order, -, rfl⟩ := interleave_cases sched a b
  rw [← order]
  exact List.filter_sublist.map _

/-- A merge holds the events of all masters and no others. -/
theorem mergeMasters_perm (scheds : List (List Bool)) (masters : List (List α)) :
    (mergeMasters scheds masters).Perm masters.flatten := by
  induction masters generalizing scheds with
  | nil => cases scheds <;> rfl
  | cons m ms ih =>
    rw [mergeMasters_cons, List.flatten_cons]
    exact (interleave_perm _ _ _).trans ((ih _).append_left m)

/-- A merge keeps the order of every master. -/
theorem sublist_mergeMasters (scheds : List (List Bool)) {masters : List (List α)} {m : List α}
    (h : m ∈ masters) : m.Sublist (mergeMasters scheds masters) := by
  induction masters generalizing scheds with
  | nil => cases h
  | cons first ms ih =>
    rw [mergeMasters_cons]
    obtain rfl | later := List.mem_cons.mp h
    · exact sublist_interleave_left _ _ _
    · exact (ih _ later).trans (sublist_interleave_right _ _ _)

/-- A marked list is a merge of its masters: the first master's schedule picks its events against
all later ones, whose merge is the list of the later events. -/
theorem exists_schedules_of_marked (n : Nat) (l : List (Fin n × α)) :
    ∃ scheds, mergeMasters scheds ((List.finRange n).map fun k => eventsOf k l) =
      l.map Prod.snd := by
  induction n with
  | zero =>
    cases l with
    | nil => exact ⟨[], rfl⟩
    | cons e l => exact e.1.elim0
  | succ n ih =>
    obtain ⟨scheds, later⟩ := ih (laterEvents l)
    refine ⟨(l.map fun e => e.1 == 0) :: scheds, ?_⟩
    simp only [eventsOf_laterEvents] at later
    rw [List.finRange_succ, List.map_cons, List.map_map, mergeMasters_cons]
    calc interleave (l.map fun e => e.1 == 0) (eventsOf 0 l)
          (mergeMasters scheds ((List.finRange n).map fun k => eventsOf k.succ l))
        = interleave (l.map fun e => e.1 == 0) (eventsOf 0 l) ((laterEvents l).map Prod.snd) := by
          rw [later]
      _ = l.map Prod.snd := interleave_eventsOf_zero l

/-- Marks for a merge of two lists and marks for the second list give marks for the whole: 0 for the
events of the first list, the successor of its mark for each event of the second. -/
theorem exists_marked_of_two {n : Nat} (l : List (Bool × α)) (later : List (Fin n × α))
    (h : (l.filter fun e => !e.1).map Prod.snd = later.map Prod.snd) :
    ∃ marked : List (Fin (n + 1) × α), marked.map Prod.snd = l.map Prod.snd ∧
      eventsOf 0 marked = (l.filter fun e => e.1).map Prod.snd ∧
      ∀ k : Fin n, eventsOf k.succ marked = eventsOf k later := by
  induction l generalizing later with
  | nil =>
    cases later with
    | nil => exact ⟨[], rfl, rfl, fun _ => rfl⟩
    | cons e later => cases h
  | cons e l ih =>
    obtain ⟨mark, x⟩ := e
    cases mark with
    | true =>
      obtain ⟨marked, order, first, rest⟩ := ih later h
      refine ⟨(0, x) :: marked, congrArg (x :: ·) order, ?_, fun k => ?_⟩
      · rw [eventsOf_cons_self, first]
        rfl
      · rw [eventsOf_cons_of_ne x marked (Fin.succ_ne_zero k).symm, rest]
    | false =>
      cases later with
      | nil => cases h
      | cons e' later =>
        obtain ⟨j, y⟩ := e'
        obtain ⟨rfl, tails⟩ : x = y ∧ (l.filter fun e => !e.1).map Prod.snd = later.map Prod.snd :=
          List.cons_eq_cons.mp h
        obtain ⟨marked, order, first, rest⟩ := ih later tails
        refine ⟨(j.succ, x) :: marked, congrArg (x :: ·) order, ?_, fun k => ?_⟩
        · rw [eventsOf_cons_of_ne x marked (Fin.succ_ne_zero j), first]
          rfl
        · rw [eventsOf_cons, eventsOf_cons, rest]
          simp only [Fin.succ_inj]

/-- Every merge can be marked with its masters. -/
theorem exists_marked_of_mergeMasters (scheds : List (List Bool)) (masters : List (List α)) :
    ∃ l : List (Fin masters.length × α), l.map Prod.snd = mergeMasters scheds masters ∧
      ∀ k, eventsOf k l = masters[k] := by
  induction masters generalizing scheds with
  | nil => exact ⟨[], by cases scheds <;> rfl, fun k => k.elim0⟩
  | cons m ms ih =>
    obtain ⟨later, laterOrder, laterMasters⟩ := ih scheds.tail
    obtain ⟨l, order, first, second⟩ :=
      interleave_cases (scheds.headD []) m (mergeMasters scheds.tail ms)
    obtain ⟨marked, markedOrder, zero, succ⟩ :=
      exists_marked_of_two l later (second.trans laterOrder.symm)
    refine ⟨marked, ?_, fun k => ?_⟩
    · rw [mergeMasters_cons, ← order]
      exact markedOrder
    · cases k using Fin.cases with
      | zero => exact zero.trans first
      | succ k => exact (succ k).trans (laterMasters k)

/-- The merges of given masters are the lists whose events can be marked so that each mark gives its
master's events, in order (20_memory.md R40). -/
theorem exists_schedules_iff_marked (masters : List (List α)) (order : List α) :
    (∃ scheds, mergeMasters scheds masters = order) ↔
      ∃ l : List (Fin masters.length × α), l.map Prod.snd = order ∧
        ∀ k, eventsOf k l = masters[k] := by
  constructor
  · rintro ⟨scheds, rfl⟩
    exact exists_marked_of_mergeMasters scheds masters
  · rintro ⟨l, rfl, events⟩
    obtain ⟨scheds, merge⟩ := exists_schedules_of_marked masters.length l
    have same : ((List.finRange masters.length).map fun k => eventsOf k l) = masters := by
      simp only [events]
      exact List.map_getElem_finRange masters
    rw [same] at merge
    exact ⟨scheds, merge⟩

end Marked

end Machine

end Sys2Proof
end

section
/-! PROOFS. The statements of 20_memory.md. -/

namespace Sys2Proof.Machine

/-! ### Reads and commands (R37) -/

/-- An instruction that changes the block is a command. -/
theorem command_of_block_ne {i : Instr} {s t : State} (h : exec i s = .next t)
    (changed : t.block ≠ s.block) : (∃ f, i = .wrFreqCmd f) ∨ ∃ pct, i = .wrPctCmd pct := by
  obtain ⟨f, hi, -⟩ | ⟨pct, hi, -⟩ | ⟨r, -, -, hx⟩ | ⟨-, hx⟩ := exec_cases i s
  · exact .inl ⟨f, hi⟩
  · exact .inr ⟨pct, hi⟩
  · cases hx.symm.trans h
    exact absurd rfl changed
  · cases hx.symm.trans h
    exact absurd rfl changed

/-- A frequency command repeated at once changes nothing more: the period it computes depends on the
configuration alone. -/
theorem exec_wrFreqCmd_twice {f : Word} {s t : State} (h : exec (.wrFreqCmd f) s = .next t) :
    ∃ r, t.responses = r :: s.responses ∧
      exec (.wrFreqCmd f) t = .next { t with responses := r :: t.responses } := by
  by_cases hf : s.cfg.inRange f.toNat
  · cases (exec_wrFreqCmd_of_inRange hf).symm.trans h
    exact ⟨_, rfl, exec_wrFreqCmd_of_inRange hf⟩
  · cases (exec_wrFreqCmd_of_not_inRange hf).symm.trans h
    exact ⟨_, rfl, exec_wrFreqCmd_of_not_inRange hf⟩

/-- A duty command repeated at once changes nothing more: it leaves `INIT` and `PERIOD`, on which
alone its outcome depends. -/
theorem exec_wrPctCmd_twice {pct : Word} {s t : State} (h : exec (.wrPctCmd pct) s = .next t) :
    ∃ r, t.responses = r :: s.responses ∧
      exec (.wrPctCmd pct) t = .next { t with responses := r :: t.responses } := by
  cases hi : s.init with
  | false =>
    cases (exec_wrPctCmd_of_not_init hi pct).symm.trans h
    exact ⟨_, rfl, exec_wrPctCmd_of_not_init (by exact hi) pct⟩
  | true =>
    by_cases hp : pct.toNat ≤ 100
    · cases (exec_wrPctCmd_of_valid hi hp).symm.trans h
      exact ⟨_, rfl, exec_wrPctCmd_of_valid hi hp⟩
    · cases (exec_wrPctCmd_of_invalid hi hp).symm.trans h
      exact ⟨_, rfl, exec_wrPctCmd_of_invalid hi hp⟩

/-- A command repeated at once leaves the same block with the same response. -/
theorem exec_command_twice {i : Instr} {s t : State} (hc : i.cls = .command)
    (h : exec i s = .next t) :
    ∃ r, t.responses = r :: s.responses ∧
      exec i t = .next { t with responses := r :: t.responses } := by
  obtain ⟨f, rfl, -⟩ | ⟨pct, rfl, -⟩ | ⟨-, hc', -⟩ | ⟨hc', -⟩ := exec_cases i s
  · exact exec_wrFreqCmd_twice h
  · exact exec_wrPctCmd_twice h
  · exact absurd (hc.symm.trans hc') (by decide)
  · exact absurd (hc.symm.trans hc') (by decide)

/-- Accepted commands in the two orders differ in `DUTY_CUR`: the percentage last sets it, the
frequency last clears it. -/
theorem commands_do_not_commute {s t t' u u' : State} {f pct : Word}
    (hf : s.cfg.inRange f.toNat) (hp : pct.toNat ≤ 100)
    (ht : exec (.wrFreqCmd f) s = .next t) (hu : exec (.wrPctCmd pct) t = .next u)
    (ht' : exec (.wrPctCmd pct) s = .next t') (hu' : exec (.wrFreqCmd f) t' = .next u') :
    u.block ≠ u'.block := by
  have current : u.dutyCur = true := by
    cases (exec_wrFreqCmd_of_inRange hf).symm.trans ht
    cases (exec_wrPctCmd_of_valid rfl hp).symm.trans hu
    rfl
  have stale : u'.dutyCur = false := by
    have hf' : t'.cfg.inRange f.toNat := by rwa [exec_cfg ht']
    cases (exec_wrFreqCmd_of_inRange hf').symm.trans hu'
    rfl
  intro same
  have := congrArg State.dutyCur same
  exact absurd (current.symm.trans (this.trans stale)) (by decide)

/-- Settles O23. That the commands do not commute is shown right after reset, with 2,500 Hz and
25 %. -/
theorem readsAreSilentAndCommandsIdempotent : Obligations.ReadsAreSilentAndCommandsIdempotent := by
  refine ⟨fun s off d => ?_, fun _ _ _ => command_of_block_ne, fun _ _ _ => exec_command_twice, ?_⟩
  · rw [decode_packWord]
    obtain ⟨r, hr⟩ := exec_of_not_command (decodeFields_read_cls off d) s
    exact ⟨r, hr s.responses, hr (r :: s.responses)⟩
  · exact ⟨State.reset, 250000#32, 25#32, _, _, _, _, rfl, rfl, rfl, rfl,
      commands_do_not_commute (s := State.reset) (f := 250000#32) (pct := 25#32) (by decide)
        (by decide) rfl rfl rfl rfl⟩

/-! ### The order of transactions (R36, R40) -/

/-- The step that takes a transaction off the port performs it. -/
theorem step_perform (s : State) (t : TransactionWord) (rest : List HostEvent) :
    step { s with port := .transaction t :: rest } = .next { s.perform t with port := rest } := by
  rw [step_transaction _ t rest rfl]
  exact exec_with_port (s := s) rest (exec_decode_eq_perform s t)

/-- Settles O53, by induction on the transactions. -/
theorem runAppliesTransactionsInOrder : Obligations.RunAppliesTransactionsInOrder := by
  intro s ts rest
  induction ts generalizing s with
  | nil => exact run_zero _
  | cons t ts ih => exact (run_succ ts.length (step_perform s t _)).trans (ih (s.perform t))

/-- The port after a word is presented: its low 41 bits as the next transaction. -/
theorem withFetchWord_encode_port (s : State) (i : Instr) :
    (s.withFetchWord 48 (encode i).toNat).port = .transaction (encode i) :: s.port := by
  have fits : (encode i).toNat < 2 ^ 48 := (encode i).isLt.trans (by decide)
  rw [State.withFetchWord, Nat.mod_eq_of_lt fits, BitVec.ofNat_toNat, BitVec.setWidth_eq]

/-- Settles O52: the step on a transaction, and the decode of what was encoded. -/
theorem stepRunsTheDecodedInstruction : Obligations.StepRunsTheDecodedInstruction := by
  refine ⟨step_transaction, fun s i hi => ?_⟩
  rw [step_transaction _ _ _ (withFetchWord_encode_port s i), decode_encode hi]
  rfl

/-! ### The merges of several masters (R40) -/

/-- Settles O54, from the lemmas on merges and marked lists. -/
theorem everyInterleavingIsAMerge : Obligations.EveryInterleavingIsAMerge :=
  ⟨fun sched a b => ⟨sublist_interleave_left sched a b, sublist_interleave_right sched a b,
      interleave_perm sched a b⟩,
    interleave_filter,
    fun scheds masters => ⟨mergeMasters_perm scheds masters, fun _ => sublist_mergeMasters scheds⟩,
    exists_schedules_of_marked, exists_schedules_iff_marked⟩

/-! ### The window (R32, R33) -/

/-- Settles O55, case by case of the platform's two checks. -/
theorem accessWordOfAnAddress : Obligations.AccessWordOfAnAddress := by
  intro p w addr bytes d
  refine ⟨fun subWord => if_pos subWord, ?_, fun outside => ?_⟩
  · rintro k hk rfl
    have inside : p.inWindow (p.base + k) := by constructor <;> omega
    rw [← p.offsetOf_base_add k]
    exact (if_neg (by decide)).trans (if_pos inside)
  · have notInside : ¬ p.inWindow addr := by
      rintro ⟨lower, upper⟩
      omega
    exact (if_neg (by decide)).trans (if_neg notInside)

end Sys2Proof.Machine
end

section
/-! PROOFS. Facts about the encoding that the statements of 30_encoding.md turn on: the fields of a
transaction word as numbers (R45), the registers' offsets (R48), and what the decoder can answer for
a direction and an offset, whatever the data word (R48, R49). -/

namespace Sys2Proof

/-! ### The fields of a transaction word as numbers (R45) -/

/-- A packed word as a number. -/
theorem packWord_toNat (w : Dir) (off : Offset) (data : Word) :
    (packWord w off data).toNat = w.bit.toNat * 2 ^ 40 + off.toNat * 2 ^ 32 + data.toNat := by
  calc (packWord w off data).toNat
      = (w.bit.toNat <<< 8 ||| off.toNat) <<< 32 ||| data.toNat := by
        rw [packWord, BitVec.toNat_append, BitVec.toNat_append]
    _ = (w.bit.toNat <<< 8 + off.toNat) <<< 32 + data.toNat := by
        rw [← Nat.shiftLeft_add_eq_or_of_lt off.isLt, ← Nat.shiftLeft_add_eq_or_of_lt data.isLt]
    _ = w.bit.toNat * 2 ^ 40 + off.toNat * 2 ^ 32 + data.toNat := by
        rw [Nat.shiftLeft_eq, Nat.shiftLeft_eq]
        ring

theorem Dir.bit_toNat (w : Dir) : w.bit.toNat = if w = .write then 1 else 0 := by
  cases w <;> rfl

theorem Dir.bit_ofBit (b : BitVec 1) : (Dir.ofBit b).bit = b := by
  revert b
  decide

/-- The direction of a word is its bit 40. -/
theorem bit_wOf_toNat (t : TransactionWord) : (wOf t).bit.toNat = t.toNat / 2 ^ 40 := by
  rw [wOf, Dir.bit_ofBit, BitVec.extractLsb'_toNat, Nat.shiftRight_eq_div_pow]
  have := t.isLt
  omega

/-- A word is a write exactly when its bit 40 is 1. -/
theorem wOf_eq_write_iff (t : TransactionWord) : wOf t = .write ↔ t.toNat / 2 ^ 40 = 1 := by
  rw [← bit_wOf_toNat]
  cases wOf t <;> decide

theorem offOf_toNat (t : TransactionWord) : (offOf t).toNat = t.toNat / 2 ^ 32 % 256 := by
  rw [offOf, BitVec.extractLsb'_toNat, Nat.shiftRight_eq_div_pow]

theorem dataOf_toNat (t : TransactionWord) : (dataOf t).toNat = t.toNat % 2 ^ 32 := by
  rw [dataOf, BitVec.extractLsb'_toNat, Nat.shiftRight_zero]

/-- A word is its three fields. -/
theorem packWord_fields (t : TransactionWord) : packWord (wOf t) (offOf t) (dataOf t) = t := by
  apply BitVec.eq_of_toNat_eq
  rw [packWord_toNat, bit_wOf_toNat, offOf_toNat, dataOf_toNat]
  omega

/-! ### The offsets of the registers (10_state.md R25) -/

/-- Every aligned offset up to 0x28 is a register's: the map lists them at every fourth byte. -/
theorem Reg.exists_offset_eq {off : Offset} (aligned : off.toNat % 4 = 0)
    (mapped : off.toNat ≤ 0x28) : ∃ r : Reg, off = r.offset := by
  have everyFourth : ∀ k : Fin 11, (Machine.allRegs[k]).offset.toNat = 4 * k := by decide
  have index : off.toNat / 4 < 11 := by omega
  refine ⟨Machine.allRegs[off.toNat / 4], BitVec.eq_of_toNat_eq ?_⟩
  calc off.toNat = 4 * (off.toNat / 4) := by omega
    _ = (Machine.allRegs[off.toNat / 4]).offset.toNat := (everyFourth ⟨_, index⟩).symm

/-! ### The decode, class by class (R48) -/

/-- The low two bits of an offset, which the decoder looks at first, as a number. -/
theorem Offset.low_eq_iff (off : Offset) (v : BitVec 2) :
    off.extractLsb' 0 2 = v ↔ off.toNat % 4 = v.toNat := by
  rw [Offset.field_eq_iff, pow_zero, Nat.div_one]
  rfl

section DecodeFields

variable (w : Dir) {off : Offset}

/-- The decode by the number of the offset: misalignment is looked at first. -/
theorem decodeFields_eq (off : Offset) (data : Word) :
    decodeFields w off data =
      if off.toNat % 4 = 1 then .misaligned01 w off data
      else if off.toNat % 4 = 2 then .misaligned10 w off data
      else if off.toNat % 4 = 3 then .misaligned11 w off data
      else decodeAligned w off data := by
  simp only [decodeFields, Offset.low_eq_iff]
  rfl

theorem decodeFields_misaligned01 (h : off.toNat % 4 = 1) :
    decodeFields w off = .misaligned01 w off :=
  funext fun data => by rw [decodeFields_eq, if_pos h]

theorem decodeFields_misaligned10 (h : off.toNat % 4 = 2) :
    decodeFields w off = .misaligned10 w off :=
  funext fun data => by rw [decodeFields_eq, if_neg (by omega), if_pos h]

theorem decodeFields_misaligned11 (h : off.toNat % 4 = 3) :
    decodeFields w off = .misaligned11 w off :=
  funext fun data => by rw [decodeFields_eq, if_neg (by omega), if_neg (by omega), if_pos h]

theorem decodeFields_read (r : Reg) : decodeFields .read r.offset = (decodeRead · r) := by
  cases r <;> rfl

theorem decodeFields_write (r : Reg) : decodeFields .write r.offset = (decodeWrite · r) := by
  cases r <;> rfl

/-- The reserved rows, by the number of the offset. -/
theorem decodeFields_above (aligned : off.toNat % 4 = 0) (above : 0x28 < off.toNat) (data : Word) :
    decodeFields w off data =
      if off.toNat = 44 then .reserved00101100 w off data
      else if off.toNat / 16 % 16 = 3 then .reserved0011xx00 w off data
      else if off.toNat / 64 % 4 = 1 then .reserved01xxxx00 w off data
      else .reserved1xxxxx00 w off data :=
  (decodeFields_of_reserved ((off.low_eq_iff _).mpr aligned) above w data).trans
    (decodeReserved_eq w off data)

theorem decodeFields_reserved00101100 (h : off.toNat = 0x2C) :
    decodeFields w off = .reserved00101100 w off :=
  funext fun data => (decodeFields_above w (by omega) (by omega) data).trans (if_pos h)

theorem decodeFields_reserved0011xx00 (aligned : off.toNat % 4 = 0) (low : 0x30 ≤ off.toNat)
    (high : off.toNat < 0x40) : decodeFields w off = .reserved0011xx00 w off :=
  funext fun data => by
    rw [decodeFields_above w aligned (by omega), if_neg (by omega), if_pos (by omega)]

theorem decodeFields_reserved01xxxx00 (aligned : off.toNat % 4 = 0) (low : 0x40 ≤ off.toNat)
    (high : off.toNat < 0x80) : decodeFields w off = .reserved01xxxx00 w off :=
  funext fun data => by
    rw [decodeFields_above w aligned (by omega), if_neg (by omega), if_neg (by omega),
      if_pos (by omega)]

theorem decodeFields_reserved1xxxxx00 (aligned : off.toNat % 4 = 0) (low : 0x80 ≤ off.toNat) :
    decodeFields w off = .reserved1xxxxx00 w off :=
  funext fun data => by
    have := off.isLt
    rw [decodeFields_above w aligned (by omega), if_neg (by omega), if_neg (by omega),
      if_neg (by omega)]

/-- Everything the decoder can answer for a direction and an offset, as a function of the data word:
a misaligned row, the read or the write of a register, or a reserved row. -/
theorem decodeFields_cases (off : Offset) :
    (off.toNat % 4 = 1 ∧ decodeFields w off = .misaligned01 w off) ∨
    (off.toNat % 4 = 2 ∧ decodeFields w off = .misaligned10 w off) ∨
    (off.toNat % 4 = 3 ∧ decodeFields w off = .misaligned11 w off) ∨
    (∃ r : Reg, w = .read ∧ off = r.offset ∧ decodeFields w off = (decodeRead · r)) ∨
    (∃ r : Reg, w = .write ∧ off = r.offset ∧ decodeFields w off = (decodeWrite · r)) ∨
    (off.toNat = 0x2C ∧ decodeFields w off = .reserved00101100 w off) ∨
    (off.toNat % 4 = 0 ∧ 0x30 ≤ off.toNat ∧ off.toNat < 0x40 ∧
      decodeFields w off = .reserved0011xx00 w off) ∨
    (off.toNat % 4 = 0 ∧ 0x40 ≤ off.toNat ∧ off.toNat < 0x80 ∧
      decodeFields w off = .reserved01xxxx00 w off) ∨
    (off.toNat % 4 = 0 ∧ 0x80 ≤ off.toNat ∧ decodeFields w off = .reserved1xxxxx00 w off) := by
  have lt := off.isLt
  have range : off.toNat % 4 = 1 ∨ off.toNat % 4 = 2 ∨ off.toNat % 4 = 3 ∨
      off.toNat % 4 = 0 ∧ (off.toNat ≤ 0x28 ∨ off.toNat = 0x2C ∨
        (0x30 ≤ off.toNat ∧ off.toNat < 0x40) ∨ (0x40 ≤ off.toNat ∧ off.toNat < 0x80) ∨
          0x80 ≤ off.toNat) := by omega
  rcases range with h | h | h | ⟨aligned, mapped | h | ⟨low, high⟩ | ⟨low, high⟩ | low⟩
  · exact .inl ⟨h, decodeFields_misaligned01 w h⟩
  · exact .inr (.inl ⟨h, decodeFields_misaligned10 w h⟩)
  · exact .inr (.inr (.inl ⟨h, decodeFields_misaligned11 w h⟩))
  · obtain ⟨r, rfl⟩ := Reg.exists_offset_eq aligned mapped
    cases w with
    | read => exact .inr (.inr (.inr (.inl ⟨r, rfl, rfl, decodeFields_read r⟩)))
    | write => exact .inr (.inr (.inr (.inr (.inl ⟨r, rfl, rfl, decodeFields_write r⟩))))
  all_goals iterate 5 right
  · exact .inl ⟨h, decodeFields_reserved00101100 w h⟩
  · exact .inr (.inl ⟨aligned, low, high, decodeFields_reserved0011xx00 w aligned low high⟩)
  · exact .inr (.inr (.inl ⟨aligned, low, high, decodeFields_reserved01xxxx00 w aligned low high⟩))
  · exact .inr (.inr (.inr ⟨aligned, low, decodeFields_reserved1xxxxx00 w aligned low⟩))

/-- The decoder keeps the three fields (30_encoding.md R45): each row's fields are the ones it was
selected by. -/
theorem decodeFields_fields (off : Offset) (data : Word) :
    (decodeFields w off data).wField = w ∧ (decodeFields w off data).offField = off ∧
      (decodeFields w off data).dataField = data := by
  obtain ⟨-, h⟩ | ⟨-, h⟩ | ⟨-, h⟩ | ⟨r, rfl, rfl, h⟩ | ⟨r, rfl, rfl, h⟩ | ⟨-, h⟩ | ⟨-, -, -, h⟩ |
    ⟨-, -, -, h⟩ | ⟨-, -, h⟩ := decodeFields_cases w off <;> rw [h]
  case inr.inr.inr.inl | inr.inr.inr.inr.inl => cases r <;> exact ⟨rfl, rfl, rfl⟩
  all_goals exact ⟨rfl, rfl, rfl⟩

/-- The decoder answers well-formed instructions only: the offset of a misaligned or reserved row
has the row's pattern. -/
theorem decodeFields_wellFormed (off : Offset) (data : Word) :
    (decodeFields w off data).wellFormed = true := by
  have low {v : BitVec 2} (h : off.toNat % 4 = v.toNat) : off.lowBitsAre v = true :=
    beq_iff_eq.mpr ((off.low_eq_iff v).mpr h)
  have high {k n : Nat} {v : BitVec n} (h : off.toNat / 2 ^ k % 2 ^ n = v.toNat) :
      (off.extractLsb' k n == v) = true :=
    beq_iff_eq.mpr ((off.field_eq_iff k n v).mpr h)
  have lt := off.isLt
  obtain ⟨h₁, h⟩ | ⟨h₂, h⟩ | ⟨h₃, h⟩ | ⟨r, -, -, h⟩ | ⟨r, -, -, h⟩ | ⟨same, h⟩ |
    ⟨aligned, _, _, h⟩ | ⟨aligned, _, _, h⟩ | ⟨aligned, _, h⟩ := decodeFields_cases w off <;> rw [h]
  · exact low h₁
  · exact low h₂
  · exact low h₃
  · cases r <;> rfl
  · cases r <;> rfl
  · exact beq_iff_eq.mpr (BitVec.eq_of_toNat_eq same)
  · exact Bool.and_eq_true_iff.mpr ⟨high (by simp; omega), low aligned⟩
  · exact Bool.and_eq_true_iff.mpr ⟨high (by simp; omega), low aligned⟩
  · exact Bool.and_eq_true_iff.mpr ⟨high (by simp; omega), low aligned⟩

/-- The data word never selects the row, the class or the register read (30_encoding.md R48). -/
theorem decodeFields_ignores_data (off : Offset) (data data' : Word) :
    (decodeFields w off data).mnemonic = (decodeFields w off data').mnemonic ∧
      (decodeFields w off data).cls = (decodeFields w off data').cls ∧
      (decodeFields w off data).readTarget = (decodeFields w off data').readTarget := by
  obtain ⟨-, h⟩ | ⟨-, h⟩ | ⟨-, h⟩ | ⟨r, -, -, h⟩ | ⟨r, -, -, h⟩ | ⟨-, h⟩ | ⟨-, -, -, h⟩ |
    ⟨-, -, -, h⟩ | ⟨-, -, h⟩ := decodeFields_cases w off <;> rw [h]
  case inr.inr.inr.inl | inr.inr.inr.inr.inl => cases r <;> exact ⟨rfl, rfl, rfl⟩
  all_goals exact ⟨rfl, rfl, rfl⟩

/-- The class of the instruction a direction and an offset select (30_encoding.md R49): the writes
at 0x00 and 0x04 are the commands, the reads of the mapped offsets the reads. -/
theorem decodeFields_cls (off : Offset) (data : Word) :
    (decodeFields w off data).cls =
      if w = .write ∧ (off.toNat = 0x00 ∨ off.toNat = 0x04) then .command
      else if w = .read ∧ off.toNat % 4 = 0 ∧ off.toNat ≤ 0x28 then .read
      else .busError := by
  have busError (h : off.toNat % 4 ≠ 0 ∨ 0x28 < off.toNat) :
      InstrClass.busError =
        if w = .write ∧ (off.toNat = 0x00 ∨ off.toNat = 0x04) then .command
        else if w = .read ∧ off.toNat % 4 = 0 ∧ off.toNat ≤ 0x28 then .read
        else .busError := by
    rw [if_neg (by omega), if_neg (by omega)]
  obtain ⟨_, h⟩ | ⟨_, h⟩ | ⟨_, h⟩ | ⟨r, rfl, rfl, h⟩ | ⟨r, rfl, rfl, h⟩ | ⟨_, h⟩ | ⟨_, _, _, h⟩ |
    ⟨_, _, _, h⟩ | ⟨_, _, h⟩ := decodeFields_cases w off <;> rw [h]
  case inr.inr.inr.inl | inr.inr.inr.inr.inl => cases r <;> rfl
  all_goals exact busError (by omega)

end DecodeFields

/-- The read of a register is decoded as such (30_encoding.md R48). -/
theorem decode_read_offset (r : Reg) (data : Word) :
    decode (packWord .read r.offset data) = decodeRead data r := by
  rw [decode_packWord, decodeFields_read]

/-- The write of a register is decoded as such (30_encoding.md R48). -/
theorem decode_write_offset (r : Reg) (data : Word) :
    decode (packWord .write r.offset data) = decodeWrite data r := by
  rw [decode_packWord, decodeFields_write]

end Sys2Proof
end

section
/-! PROOFS. Facts about the opcode table of 30_encoding.md R49: which rows a word matches, and how
many of the 512 keys `{W, OFF}` have a property. -/

namespace Sys2Proof

/-! ### The rows exclude each other -/

/-- Two rows clash when their patterns differ in a bit that both of them fix. -/
def OpRow.Clash (r r' : OpRow) : Prop := r.pattern &&& r'.mask ≠ r'.pattern &&& r.mask

/-- No word matches both of two rows that clash. -/
theorem OpRow.Clash.not_both_match {r r' : OpRow} (clash : r.Clash r') {t : TransactionWord}
    (h : r.matchesWord t = true) : r'.matchesWord t ≠ true := by
  intro h'
  have hr : t &&& r.mask = r.pattern := beq_iff_eq.mp h
  have hr' : t &&& r'.mask = r'.pattern := beq_iff_eq.mp h'
  apply clash
  rw [← hr, ← hr', BitVec.and_assoc, BitVec.and_assoc, BitVec.and_comm r.mask]

theorem opcodeRows_pairwise_clash : opcodeRows.Pairwise OpRow.Clash := by
  unfold OpRow.Clash
  decide

/-- Where elements exclude each other, the one that meets the condition is the only one. -/
theorem filter_eq_singleton {α : Type} {p : α → Bool} {R : α → α → Prop} {l : List α} {a : α}
    (exclusive : ∀ {x y}, R x y → p x = true → p y ≠ true) (pairs : l.Pairwise R) (mem : a ∈ l)
    (ha : p a = true) : l.filter p = [a] := by
  induction pairs with
  | nil => cases mem
  | @cons x l hx _ ih =>
    obtain rfl | later := List.mem_cons.mp mem
    · rw [List.filter_cons_of_pos ha, List.filter_eq_nil_iff.mpr fun y hy => exclusive (hx y hy) ha]
    · rw [List.filter_cons_of_neg fun h => exclusive (hx a later) h ha, ih later]

/-! ### Every word matches the row of its instruction -/

/-- A row that fixes bits of `W` and `OFF` alone. -/
def OpRow.ofKey (mnemonic : String) (w : Dir) (off : Offset) (wMask : Dir) (offMask : Offset) :
    OpRow :=
  ⟨mnemonic, packWord w off 0#32, packWord wMask offMask 0#32⟩

/-- Such a row is matched by the direction and the offset, whatever the data word. -/
theorem OpRow.ofKey_matchesWord {w w' wMask : Dir} {off off' offMask : Offset}
    (hw : w.bit &&& wMask.bit = w'.bit) (hoff : off &&& offMask = off') (mnemonic : String)
    (data : Word) :
    (OpRow.ofKey mnemonic w' off' wMask offMask).matchesWord (packWord w off data) = true := by
  apply beq_iff_eq.mpr
  apply BitVec.eq_of_getLsbD_eq
  intro i _
  simp only [OpRow.ofKey, BitVec.getLsbD_and, packWord_getLsbD, ← hw, ← hoff]
  split_ifs
  · simp
  · rfl
  · rfl

/-- The row of the accesses of a register in one direction, which fixes all of `W` and `OFF`. -/
def OpRow.ofReg (w : Dir) (r : Reg) : OpRow :=
  .ofKey (decodeFields w r.offset 0#32).mnemonic w r.offset .write 0xFF#8

theorem OpRow.ofReg_mem (w : Dir) (r : Reg) : OpRow.ofReg w r ∈ opcodeRows := by
  cases w <;> cases r <;> decide

theorem OpRow.ofReg_matchesWord (w : Dir) (r : Reg) (data : Word) :
    (OpRow.ofReg w r).matchesWord (packWord w r.offset data) = true :=
  OpRow.ofKey_matchesWord BitVec.and_allOnes BitVec.and_allOnes _ data

/-- The bits of an unmapped offset that its row fixes (30_encoding.md R49). -/
theorem Offset.and_rowMask (off : Offset) :
    (off.toNat % 4 = 1 → off &&& 0b00000011#8 = 0b01#8) ∧
    (off.toNat % 4 = 2 → off &&& 0b00000011#8 = 0b10#8) ∧
    (off.toNat % 4 = 3 → off &&& 0b00000011#8 = 0b11#8) ∧
    (off.toNat = 0x2C → off &&& 0b11111111#8 = 0b00101100#8) ∧
    (off.toNat % 4 = 0 → 0x30 ≤ off.toNat → off.toNat < 0x40 →
      off &&& 0b11110011#8 = 0b00110000#8) ∧
    (off.toNat % 4 = 0 → 0x40 ≤ off.toNat → off.toNat < 0x80 →
      off &&& 0b11000011#8 = 0b01000000#8) ∧
    (off.toNat % 4 = 0 → 0x80 ≤ off.toNat → off &&& 0b10000011#8 = 0b10000000#8) := by
  revert off
  decide

/-- The table has a row of the decoded instruction that the word matches. -/
theorem exists_matching_row (w : Dir) (off : Offset) (data : Word) :
    ∃ r ∈ opcodeRows, r.mnemonic = (decodeFields w off data).mnemonic ∧
      r.matchesWord (packWord w off data) = true := by
  have ofReg (w : Dir) (r : Reg) : ∃ row ∈ opcodeRows,
      row.mnemonic = (decodeFields w r.offset data).mnemonic ∧
        row.matchesWord (packWord w r.offset data) = true :=
    ⟨OpRow.ofReg w r, OpRow.ofReg_mem w r, (decodeFields_ignores_data w r.offset _ _).1,
      OpRow.ofReg_matchesWord w r data⟩
  have unmapped {pattern mask : Offset} {i : Instr} (k : Fin 29)
      (row : opcodeRows[k] = OpRow.ofKey i.mnemonic .read pattern .read mask)
      (matched : off &&& mask = pattern) :
      ∃ row ∈ opcodeRows, row.mnemonic = i.mnemonic ∧
        row.matchesWord (packWord w off data) = true :=
    ⟨_, row ▸ List.getElem_mem _, rfl, OpRow.ofKey_matchesWord BitVec.and_zero matched _ data⟩
  obtain ⟨bits01, bits10, bits11, bits2C, bits3, bits4, bits8⟩ := off.and_rowMask
  obtain ⟨h₁, h⟩ | ⟨h₂, h⟩ | ⟨h₃, h⟩ | ⟨r, rfl, rfl, h⟩ | ⟨r, rfl, rfl, h⟩ | ⟨same, h⟩ |
    ⟨aligned, low, high, h⟩ | ⟨aligned, low, high, h⟩ | ⟨aligned, low, h⟩ :=
    decodeFields_cases w off
  case inr.inr.inr.inl => exact ofReg .read r
  case inr.inr.inr.inr.inl => exact ofReg .write r
  all_goals rw [h]
  · exact unmapped 22 rfl (bits01 h₁)
  · exact unmapped 23 rfl (bits10 h₂)
  · exact unmapped 24 rfl (bits11 h₃)
  · exact unmapped 25 rfl (bits2C same)
  · exact unmapped 26 rfl (bits3 aligned low high)
  · exact unmapped 27 rfl (bits4 aligned low high)
  · exact unmapped 28 rfl (bits8 aligned low)

/-- The rows a word matches are the one row of the instruction it decodes to. -/
theorem matching_rows_eq (t : TransactionWord) :
    (opcodeRows.filter fun r => r.matchesWord t).map OpRow.mnemonic = [(decode t).mnemonic] := by
  obtain ⟨r, mem, name, hr⟩ := exists_matching_row (wOf t) (offOf t) (dataOf t)
  rw [packWord_fields] at hr
  have only : (opcodeRows.filter fun r => r.matchesWord t) = [r] :=
    filter_eq_singleton (fun clash => clash.not_both_match) opcodeRows_pairwise_clash mem hr
  rw [only, List.map_singleton, name, decode]

/-! ### Counting keys -/

/-- The word with data 0 and the key `k`, a number below 512 with `W` above the 8 bits of `OFF`. -/
def keyWord (k : Nat) : TransactionWord := BitVec.ofNat 41 (k * 2 ^ 32)

/-- The class of a key, by its number (30_encoding.md R49). -/
def keyClass (k : Nat) : InstrClass :=
  if k / 256 = 1 ∧ (k % 256 = 0x00 ∨ k % 256 = 0x04) then .command
  else if k / 256 = 0 ∧ k % 256 % 4 = 0 ∧ k % 256 ≤ 0x28 then .read
  else .busError

theorem keyWord_toNat {k : Nat} (hk : k < 512) : (keyWord k).toNat = k * 2 ^ 32 := by
  rw [keyWord, BitVec.toNat_ofNat]
  omega

theorem wOf_keyWord {k : Nat} (hk : k < 512) : wOf (keyWord k) = .write ↔ k / 256 = 1 := by
  rw [wOf_eq_write_iff, keyWord_toNat hk]
  omega

theorem offOf_keyWord {k : Nat} (hk : k < 512) : (offOf (keyWord k)).toNat = k % 256 := by
  rw [offOf_toNat, keyWord_toNat hk]
  omega

theorem decode_wField (t : TransactionWord) : (decode t).wField = wOf t :=
  (decodeFields_fields _ _ _).1

theorem decode_offField (t : TransactionWord) : (decode t).offField = offOf t :=
  (decodeFields_fields _ _ _).2.1

theorem decode_keyWord_cls {k : Nat} (hk : k < 512) : (decode (keyWord k)).cls = keyClass k := by
  have read : wOf (keyWord k) = .read ↔ k / 256 = 0 := by
    have write := wOf_keyWord hk
    cases hw : wOf (keyWord k) <;> simp [hw] at write ⊢ <;> omega
  simp only [decode, decodeFields_cls, wOf_keyWord hk, read, offOf_keyWord hk, keyClass]

/-- Counting below `m * n` in `m` blocks of `n`. -/
theorem length_filter_range_mul (p : Nat → Bool) (m n : Nat) :
    ((List.range (m * n)).filter p).length =
      ((List.range m).map fun i => ((List.range n).filter fun j => p (i * n + j)).length).sum := by
  induction m with
  | zero => simp
  | succ m ih =>
    rw [Nat.succ_mul, List.range_add, List.range_succ]
    simp [ih, List.filter_map, Function.comp_def]

/-- The keys whose instruction has a property are counted by their numbers, in 16 blocks of 32. -/
theorem length_filter_keys {p : Instr → Bool} {q : Nat → Bool}
    (h : ∀ k < 512, p (decode (keyWord k)) = q k) :
    (((List.range 512).map fun k => decode (keyWord k)).filter p).length =
      ((List.range 16).map fun i =>
        ((List.range 32).filter fun j => q (i * 32 + j)).length).sum := by
  have byNumber : (List.range 512).filter (p ∘ fun k => decode (keyWord k)) =
      (List.range 512).filter q :=
    List.filter_congr fun k hk => h k (List.mem_range.mp hk)
  rw [List.filter_map, List.length_map, byNumber]
  exact length_filter_range_mul q 16 32

/-- The keys of a class are counted by `keyClass`. -/
theorem length_filter_keys_cls (c : InstrClass) :
    (((List.range 512).map fun k => decode (keyWord k)).filter fun i => i.cls == c).length =
      ((List.range 16).map fun i =>
        ((List.range 32).filter fun j => keyClass (i * 32 + j) == c).length).sum :=
  length_filter_keys (q := fun k => keyClass k == c) fun _ hk => by rw [decode_keyWord_cls hk]

/-- The keys whose offset has a property are counted by the numbers of their offsets. -/
theorem length_filter_keys_off (p : Nat → Bool) :
    (((List.range 512).map fun k => decode (keyWord k)).filter fun i => p i.offField.toNat).length =
      ((List.range 16).map fun i =>
        ((List.range 32).filter fun j => p ((i * 32 + j) % 256)).length).sum :=
  length_filter_keys (q := fun k => p (k % 256)) fun _ hk => by
    rw [decode_offField, offOf_keyWord hk]

/-- The write keys of the mapped offsets: the 2 commands and the 9 read-only writes. -/
theorem length_filter_keys_mapped_writes :
    (((List.range 512).map fun k => decode (keyWord k)).filter fun i =>
      i.wField == .write && i.offField.toNat % 4 == 0 && decide (i.offField.toNat ≤ 0x28)).length
      = 11 := by
  refine (length_filter_keys (q := fun k =>
    decide (k / 256 = 1) && k % 256 % 4 == 0 && decide (k % 256 ≤ 0x28)) fun k hk => ?_).trans
      (by decide)
  have write : (wOf (keyWord k) == .write) = decide (k / 256 = 1) := by
    rw [Bool.eq_iff_iff, beq_iff_eq, decide_eq_true_iff, wOf_keyWord hk]
  rw [decode_wField, decode_offField, offOf_keyWord hk, write]

end Sys2Proof
end

section
/-! PROOFS. Facts about the response of a transaction and its data word (30_encoding.md R46, R47),
and about what the assembler answers for a statement (R52, R53). -/

namespace Sys2Proof

/-- A write transaction is never a read instruction (30_encoding.md R48). -/
theorem decode_cls_of_write {t : TransactionWord} (h : wOf t = .write) :
    (decode t).cls ≠ .read := by
  rw [decode, decodeFields_cls, h]
  split_ifs with hc hr
  · decide
  · exact absurd hr.1 (by decide)
  · decide

/-- A transaction that reads, or that writes a read-only register, is never a command
(30_encoding.md R48). -/
theorem decodeFields_cls_ne_command {w : Dir} {off : Offset}
    (h : w = .read ∨ (0x08 ≤ off.toNat ∧ off.toNat ≤ 0x28)) (data : Word) :
    (decodeFields w off data).cls ≠ .command := by
  rw [decodeFields_cls, if_neg]
  · split_ifs <;> decide
  · rintro ⟨rfl, hoff⟩
    obtain h | h := h
    · cases h
    · omega

namespace Machine

/-! ### The response of an instruction (R46) -/

/-- An instruction gives one response, and only an `OKAY` read returns data. -/
theorem exec_response {i : Instr} {s u : State} (h : exec i s = .next u) :
    ∃ r, u.responses = r :: s.responses ∧
      (r.rdata = 0#32 ∨ (i.cls = .read ∧ r.resp = .okay)) := by
  obtain ⟨f, rfl, hx⟩ | ⟨pct, rfl, hx⟩ | ⟨reg, hc, -, hx⟩ | ⟨-, hx⟩ := exec_cases i s <;>
    cases hx.symm.trans h
  case inl =>
    obtain ⟨-, hu⟩ | ⟨-, hu⟩ := setFrequency_cases s f.toNat <;> rw [hu]
    · exact ⟨_, rfl, .inl rfl⟩
    · exact ⟨_, rfl, .inl rfl⟩
  case inr.inl =>
    obtain ⟨-, -, hu⟩ | ⟨-, hu⟩ | ⟨-, -, hu⟩ := setDutyCycle_cases s pct.toNat <;> rw [hu]
    · exact ⟨_, rfl, .inl rfl⟩
    · exact ⟨_, rfl, .inl rfl⟩
    · exact ⟨_, rfl, .inl rfl⟩
  case inr.inr.inl => exact ⟨⟨.okay, s.readReg reg⟩, rfl, .inr ⟨hc, rfl⟩⟩
  case inr.inr.inr => exact ⟨_, s.raiseBusError_responses, .inl rfl⟩

/-- `RESP` is the two top bits of a response word. -/
theorem Response.bits_resp (r : Response) : r.bits.extractLsb' 32 2 = r.resp.bits := by
  ext i hi
  simp [BitVec.getElem_extractLsb', Response.bits_getLsbD, BitVec.getLsbD_eq_getElem hi]

/-- `RDATA` is the 32 low bits of a response word. -/
theorem Response.bits_rdata (r : Response) : r.bits.extractLsb' 0 32 = r.rdata := by
  ext i hi
  simp [BitVec.getElem_extractLsb', Response.bits_getLsbD, hi]

/-! ### The data word (R47) -/

/-- What an instruction that is no command does depends on its class and its register alone. -/
theorem exec_eq_of_cls_eq {i j : Instr} (cls : i.cls = j.cls) (target : i.readTarget = j.readTarget)
    (h : i.cls ≠ .command) (s : State) : exec i s = exec j s := by
  obtain ⟨f, rfl, -⟩ | ⟨pct, rfl, -⟩ | ⟨r, -, hr, hx⟩ | ⟨hc, hx⟩ := exec_cases i s
  · exact absurd rfl h
  · exact absurd rfl h
  · rw [hx, exec_of_readTarget (target.symm.trans hr)]
  · rw [hx, exec_of_busError (cls.symm.trans hc)]

/-! ### What the assembler answers for a statement (R52, R53) -/

/-- A value is assembled exactly when a word holds it. -/
theorem asmWord_eq_ok_iff {v : Nat} {d : Word} : asmWord v = .ok d ↔ d.toNat = v := by
  unfold asmWord
  split_ifs with h
  · rw [Except.ok.injEq, ← BitVec.toNat_inj, BitVec.toNat_ofNat, Nat.mod_eq_of_lt h, eq_comm]
  · have := d.isLt
    simp only [false_iff]
    omega

/-- A frequency is assembled exactly when it is an integer number of operand units that a word
holds. -/
theorem asmFrequency_eq_ok_iff {c : Config} {hz : Decimal} {F : Word} :
    asmFrequency c hz = .ok F ↔ hz.mantissa * c.freqScale = F.toNat * 10 ^ hz.places := by
  have pos : 0 < 10 ^ hz.places := Nat.pow_pos (by decide)
  unfold asmFrequency
  split_ifs with h
  · rw [asmWord_eq_ok_iff, eq_comm, Nat.div_eq_iff_eq_mul_left pos (Nat.dvd_of_mod_eq_zero h)]
  · simp only [false_iff]
    exact fun exact => h (by rw [exact, Nat.mul_mod_left])

/-- A statement of one write is assembled exactly when its value is. -/
theorem asmOne_asmWrite_eq_ok_iff {off : Offset} {v : Except AsmReject Word}
    {ws : List TransactionWord} :
    asmOne (asmWrite off v) = .ok ws ↔ ∃ d, v = .ok d ∧ ws = [packWord .write off d] := by
  cases v with
  | ok d => simp [asmWrite, asmOne, busWrite, eq_comm]
  | error e => simp [asmWrite, asmOne]

/-- Two parts are assembled together exactly when each of them is, in order. -/
theorem asmBoth_eq_ok_iff {x y : Except AsmReject TransactionWord} {ws : List TransactionWord} :
    asmBoth x y = .ok ws ↔ ∃ a b, asmOne x = .ok [a] ∧ asmOne y = .ok [b] ∧ ws = [a, b] := by
  cases x <;> cases y <;> simp [asmBoth, asmOne, eq_comm]

/-- `SETF` (30_encoding.md R53). -/
theorem assemble_setf_eq_ok_iff {c : Config} {hz : Decimal} {ws : List TransactionWord} :
    assemble c (.setf hz) = .ok ws ↔
      ∃ F : Word, hz.mantissa * c.freqScale = F.toNat * 10 ^ hz.places ∧
        ws = [packWord .write 0x00#8 F] := by
  simp only [← asmFrequency_eq_ok_iff]
  exact asmOne_asmWrite_eq_ok_iff

/-- `SETD` (30_encoding.md R53). -/
theorem assemble_setd_eq_ok_iff {c : Config} {pct : Nat} {ws : List TransactionWord} :
    assemble c (.setd pct) = .ok ws ↔
      ∃ d : Word, d.toNat = pct ∧ ws = [packWord .write 0x04#8 d] := by
  simp only [← asmWord_eq_ok_iff]
  exact asmOne_asmWrite_eq_ok_iff

/-- `SETF` of a whole number of operand units (30_encoding.md R47). -/
theorem assemble_setf_of_units {c : Config} {hz : Decimal} {F : Word}
    (units : hz.mantissa * c.freqScale = F.toNat * 10 ^ hz.places) :
    assemble c (.setf hz) = .ok [packWord .write 0x00#8 F] :=
  assemble_setf_eq_ok_iff.mpr ⟨F, units, rfl⟩

end Machine

end Sys2Proof
end

section
/-! PROOFS. Facts about the reading of assembler text (30_encoding.md R52). -/

namespace Sys2Proof.Machine

/-- A character that stands inside a word of a line: no blank, no comma, no start of a comment. -/
abbrev IsWordChar (ch : Char) : Prop := ch ≠ ' ' ∧ ch ≠ '\t' ∧ ch ≠ ',' ∧ ch ≠ ';'

/-- The characters of a word are gathered into one token. -/
theorem tokens_append_word {word : List Char} (h : ∀ ch ∈ word, IsWordChar ch)
    (current rest : List Char) :
    tokens current (word ++ rest) = tokens (word.reverse ++ current) rest := by
  induction word generalizing current with
  | nil => rfl
  | cons ch word ih =>
    obtain ⟨⟨space, tab, comma, -⟩, later⟩ := List.forall_mem_cons.mp h
    rw [List.cons_append, tokens, if_neg (by simp [space, tab]), if_neg comma, ih later,
      List.reverse_cons, List.append_assoc]
    rfl

/-- A word is no comment, so it is kept when the comment is cut off. -/
theorem takeWhile_append_word {word : List Char} (h : ∀ ch ∈ word, IsWordChar ch)
    (rest : List Char) :
    (word ++ rest).takeWhile (· ≠ ';') = word ++ rest.takeWhile (· ≠ ';') :=
  List.takeWhile_append_of_pos fun ch hch => decide_eq_true (h ch hch).2.2.2

/-- A finished word is a token. -/
theorem flushToken_reverse {word : List Char} (h : word ≠ []) (rest : List (List Char)) :
    flushToken word.reverse rest = word :: rest := by
  rw [flushToken, if_neg (by simpa using h), List.reverse_reverse]

/-- A line that spells a statement is assembled as that statement. -/
theorem assembleLine_of_parseTokens {line : String} {toks : List (List Char)} {stmt : AsmStmt}
    (spelled : tokens [] (line.toList.takeWhile (· ≠ ';')) = toks)
    (parsed : parseTokens toks = some stmt) (c : Config) :
    assembleLine c line = assemble c stmt := by
  rw [assembleLine, spelled]
  cases toks with
  | nil =>
    have nothing : none = some stmt := parsed
    cases nothing
  | cons tok toks => simp only [parsed]

section RegisterNames

variable (r : Reg)

theorem Reg.name_word : ∀ ch ∈ (Reg.name r).toList, IsWordChar ch := by
  cases r <;> simp [Reg.name, IsWordChar]

theorem Reg.name_ne_nil : (Reg.name r).toList ≠ [] := by
  cases r <;> simp [Reg.name]

/-- A register name is read as the register's offset (10_state.md R25). -/
theorem parseReg_name : parseReg (Reg.name r).toList = some r.offset := by
  cases r <;> rfl

/-- `RD reg` (30_encoding.md R52). -/
theorem assembleLine_rd_name (c : Config) :
    assembleLine c ("RD " ++ Reg.name r) = .ok [packWord .read r.offset 0#32] := by
  have spelled : tokens [] (("RD " ++ Reg.name r).toList.takeWhile (· ≠ ';')) =
      ["RD".toList, (Reg.name r).toList] := by
    calc tokens [] (("RD " ++ Reg.name r).toList.takeWhile (· ≠ ';'))
        = "RD".toList :: tokens [] (((Reg.name r).toList ++ []).takeWhile (· ≠ ';')) := by
          rw [String.toList_append, List.append_nil]
          rfl
      _ = "RD".toList :: flushToken (Reg.name r).toList.reverse [] := by
          rw [takeWhile_append_word (Reg.name_word r), tokens_append_word (Reg.name_word r),
            List.append_nil]
          rfl
      _ = ["RD".toList, (Reg.name r).toList] := by rw [flushToken_reverse (Reg.name_ne_nil r)]
  have parsed : parseTokens ["RD".toList, (Reg.name r).toList] = some (.rd r.offset) :=
    congrArg (Option.map AsmStmt.rd) (parseReg_name r)
  exact assembleLine_of_parseTokens spelled parsed c

/-- `WR reg, value` (30_encoding.md R52), with what follows the comma given by its one token. -/
theorem assembleLine_wr_name {rest : String} {tail value : List Char} {v : Nat}
    (comma : rest.toList.takeWhile (· ≠ ';') = ',' :: tail) (spelled : tokens [] tail = [value])
    (hv : parseValue value = some v) (c : Config) :
    assembleLine c ("WR " ++ Reg.name r ++ rest) = assemble c (.wr r.offset v) := by
  have spelled : tokens [] (("WR " ++ Reg.name r ++ rest).toList.takeWhile (· ≠ ';')) =
      ["WR".toList, (Reg.name r).toList, [','], value] := by
    calc tokens [] (("WR " ++ Reg.name r ++ rest).toList.takeWhile (· ≠ ';'))
        = "WR".toList :: tokens [] (((Reg.name r).toList ++ rest.toList).takeWhile (· ≠ ';')) := by
          rw [String.toList_append, String.toList_append, List.append_assoc]
          rfl
      _ = "WR".toList :: flushToken (Reg.name r).toList.reverse ([','] :: tokens [] tail) := by
          rw [takeWhile_append_word (Reg.name_word r), tokens_append_word (Reg.name_word r),
            List.append_nil, comma]
          rfl
      _ = ["WR".toList, (Reg.name r).toList, [','], value] := by
          rw [flushToken_reverse (Reg.name_ne_nil r), spelled]
  have parsed : parseTokens ["WR".toList, (Reg.name r).toList, [','], value] =
      some (.wr r.offset v) := by
    calc parseTokens ["WR".toList, (Reg.name r).toList, [','], value]
        = parseWr (Reg.name r).toList value := rfl
      _ = some (.wr r.offset v) := by rw [parseWr, parseReg_name, hv]
  exact assembleLine_of_parseTokens spelled parsed c

end RegisterNames

end Sys2Proof.Machine
end

section
/-! PROOFS. The statements of 30_encoding.md. -/

namespace Sys2Proof

/-! ### The transaction word (R45) -/

/-- Settles O10, from the fields as numbers. -/
theorem transactionWordFields : Obligations.TransactionWordFields :=
  ⟨fun w off data => by rw [packWord_toNat, Dir.bit_toNat],
    fun t => ⟨wOf_eq_write_iff t, offOf_toNat t, dataOf_toNat t, packWord_fields t⟩⟩

/-! ### Decoding and encoding (R48, R49) -/

/-- Settles O11, which is `decode_encode`. -/
theorem decodeOfEncode : Obligations.DecodeOfEncode :=
  fun _ => decode_encode

/-- Encoding what a word decodes to packs the word's own fields again. -/
theorem encode_decode (t : TransactionWord) : encode (decode t) = t := by
  obtain ⟨hw, hoff, hdata⟩ := decodeFields_fields (wOf t) (offOf t) (dataOf t)
  rw [encode, decode, hw, hoff, hdata, packWord_fields]

/-- Settles O12: the decoder answers well-formed instructions and keeps the fields. -/
theorem encodeOfDecode : Obligations.EncodeOfDecode :=
  fun t => ⟨decodeFields_wellFormed _ _ _, encode_decode t⟩

/-- Settles O13, from the decode of each class. -/
theorem decodeFollowsTheMap : Obligations.DecodeFollowsTheMap := by
  intro w off d
  have read (r : Reg) := decode_read_offset r d
  have write (r : Reg) := decode_write_offset r d
  simp only [decode_packWord w off]
  refine ⟨fun h => congrFun (decodeFields_misaligned01 w h) d,
    fun h => congrFun (decodeFields_misaligned10 w h) d,
    fun h => congrFun (decodeFields_misaligned11 w h) d,
    write .freqCmd, read .freqCmd, write .pctCmd, read .pctCmd, write .period, read .period,
    write .duty, read .duty, write .dutyHi, read .dutyHi, write .dutyLo, read .dutyLo,
    write .status, read .status, write .cfgOsc, read .cfgOsc, write .cfgPrescale,
    read .cfgPrescale, write .cfgRes, read .cfgRes, write .cfgFscale, read .cfgFscale,
    fun _ h => congrFun (decodeFields_reserved00101100 w h) d,
    fun aligned low high => congrFun (decodeFields_reserved0011xx00 w aligned low high) d,
    fun aligned low high => congrFun (decodeFields_reserved01xxxx00 w aligned low high) d,
    fun aligned low => congrFun (decodeFields_reserved1xxxxx00 w aligned low) d,
    fun d' => (decodeFields_ignores_data w off d' d).1⟩

/-- Settles O14: the rows by `matching_rows_eq`, the counts by the numbers of the keys. -/
theorem opcodeRowsPartitionTheWords : Obligations.OpcodeRowsPartitionTheWords :=
  ⟨matching_rows_eq, rfl, by decide, length_filter_keys_mapped_writes,
    (length_filter_keys_cls .command).trans (by decide),
    (length_filter_keys_cls .read).trans (by decide),
    (length_filter_keys_cls .busError).trans (by decide),
    (length_filter_keys_off fun off => decide (off % 4 ≠ 0)).trans (by decide),
    (length_filter_keys_off fun off => off % 4 == 0 && decide (0x2C ≤ off)).trans (by decide)⟩

namespace Machine

/-! ### Responses and operands (R46, R47) -/

/-- Settles O16: only a read instruction that answers `OKAY` returns data, and no write is one. -/
theorem everyTransactionReturnsOneResponse : Obligations.EveryTransactionReturnsOneResponse := by
  refine ⟨fun t s u h => ?_, fun t s => exec_total _ s, fun r => ⟨r.bits_resp, r.bits_rdata⟩⟩
  obtain ⟨r, hu, hr⟩ := exec_response h
  refine ⟨r, hu, fun write => ?_, fun notOkay => ?_⟩
  · exact hr.resolve_right fun ⟨read, _⟩ => decode_cls_of_write write read
  · exact hr.resolve_right fun ⟨_, okay⟩ => notOkay okay

/-- Settles O17: the commands take the data word whole; every other instruction depends on its class
and its register alone, which the data word does not select. -/
theorem dataIsOperandOrIgnored : Obligations.DataIsOperandOrIgnored := by
  refine ⟨fun F s => ?_, fun pct s => ?_, fun s hi => ?_, fun w off d d' s h => ?_,
    fun c h fits => ?_, ?_⟩
  · exact congrArg (exec · s) (decode_write_offset .freqCmd F)
  · exact congrArg (exec · s) (decode_write_offset .pctCmd pct)
  · exact (congrArg (exec · s) (decode_write_offset .pctCmd _)).trans
      (exec_wrPctCmd_of_invalid hi (by decide))
  · obtain ⟨-, cls, target⟩ := decodeFields_ignores_data w off d d'
    rw [decode_packWord, decode_packWord]
    exact exec_eq_of_cls_eq cls target (decodeFields_cls_ne_command h d) s
  · apply assemble_setf_of_units
    rw [BitVec.toNat_ofNat, Nat.mod_eq_of_lt fits, pow_zero, Nat.mul_one]
  · exact assemble_setf_of_units (by decide)

/-! ### The pseudo-instructions (R53) -/

/-- Settles O18, from what the assembler answers for each form. -/
theorem pseudoInstructionsExpand : Obligations.PseudoInstructionsExpand :=
  fun _ _ _ _ => ⟨assemble_setf_eq_ok_iff, assemble_setd_eq_ok_iff, asmBoth_eq_ok_iff, rfl⟩

/-! ### The assembler text (R52, R54) -/

/-- Settles O15, by evaluating the decoder and the assembler on the worked encodings. -/
theorem workedEncodings : Obligations.WorkedEncodings :=
  ⟨fun _ => ⟨rfl, rfl, rfl, rfl, rfl, rfl, rfl⟩, rfl, rfl, rfl, rfl, rfl, rfl, rfl⟩

/-- Settles O19: the text of every register by the lemmas on its name, the single lines by
evaluation. -/
theorem assemblerTextOfRegisters : Obligations.AssemblerTextOfRegisters :=
  ⟨fun c r => ⟨assembleLine_rd_name r c, (assembleLine_wr_name r rfl rfl rfl c).trans rfl,
      (assembleLine_wr_name r rfl rfl rfl c).trans rfl⟩,
    fun _ => ⟨rfl, rfl, rfl⟩, rfl, rfl⟩

end Machine

end Sys2Proof
end

section
/-! PROOFS. Facts about the numbers of the two commands that the statements of 40_commands.md turn
on: the ends of the frequency range (R58), the rounding error (R65, R66), and the corner cases of the
period (R60) and of the duty value (R63, R64). -/

namespace Sys2Proof

/-! ### Rounding half up -/

/-- The rounded quotient is off by at most 1/2; a tie is rounded up, so only downwards by exactly
1/2. -/
theorem roundHalfUpDiv_error (a b : Nat) (hb : 0 < b) :
    -(1 / 2 : ℚ) ≤ (a : ℚ) / b - roundHalfUpDiv a b ∧
      (a : ℚ) / b - roundHalfUpDiv a b < 1 / 2 := by
  have floor : (roundHalfUpDiv a b : ℚ) = (⌊(a : ℚ) / b + 1 / 2⌋ : ℤ) := by
    rw [← roundHalfUpDiv_eq_floor a b hb, Int.cast_natCast]
  have below := Int.floor_le ((a : ℚ) / b + 1 / 2)
  have above := Int.lt_floor_add_one ((a : ℚ) / b + 1 / 2)
  rw [floor]
  constructor <;> linarith

/-- The relative error of `t * r / p` from `t` is the error of `p` from `r`, over `p`. -/
theorem relative_error_eq {t p : ℚ} (r : ℚ) (ht : 0 < t) (hp : 0 < p) :
    |t * r / p - t| / t = |r - p| / p := by
  have difference : t * r / p - t = t * ((r - p) / p) := by field_simp
  rw [difference, abs_mul, abs_div, abs_of_pos ht, abs_of_pos hp, mul_div_cancel_left₀ _ ht.ne']

/-- An exact quotient is kept. -/
theorem roundHalfUpDiv_of_eq_mul {a b k : Nat} (hb : 0 < b) (h : a = b * k) :
    roundHalfUpDiv a b = k := by
  have dividend : 2 * a + b = b + 2 * b * k := by rw [h]; ring
  rw [roundHalfUpDiv, dividend, Nat.add_mul_div_left _ _ (by omega), Nat.div_eq_of_lt (by omega),
    Nat.zero_add]

namespace Config

variable (c : Config)

/-! ### The frequency range -/

/-- The configuration's parameters as positive rationals. -/
theorem parameters_cast_pos : (0 : ℚ) < c.prescale ∧ (0 : ℚ) < c.freqScale :=
  ⟨Nat.cast_pos.mpr c.prescale_legal.1, Nat.cast_pos.mpr c.freqScale_legal.1⟩

/-- The operand is at least `freq_min` exactly when `N ≤ D * 2^RES` (40_commands.md R58). -/
theorem freqMin_le_iff (f : Nat) :
    (c.oscHz : ℚ) / (4 * 2 ^ c.res * c.prescale) ≤ (f : ℚ) / c.freqScale ↔
      c.scaledOsc ≤ c.divisor f * 2 ^ c.res := by
  obtain ⟨prescale, scale⟩ := c.parameters_cast_pos
  have denominator : (f : ℚ) * (4 * 2 ^ c.res * c.prescale) = 4 * c.prescale * f * 2 ^ c.res := by
    ring
  rw [div_le_div_iff₀ (by positivity) scale, denominator]
  unfold scaledOsc divisor
  exact_mod_cast Iff.rfl

/-- The operand is at most `freq_max` exactly when `D ≤ N` (40_commands.md R58). -/
theorem le_freqMax_iff (f : Nat) :
    (f : ℚ) / c.freqScale ≤ (c.oscHz : ℚ) / (4 * c.prescale) ↔ c.divisor f ≤ c.scaledOsc := by
  obtain ⟨prescale, scale⟩ := c.parameters_cast_pos
  rw [div_le_div_iff₀ scale (by positivity), mul_comm (f : ℚ)]
  unfold scaledOsc divisor
  exact_mod_cast Iff.rfl

/-- The lower end of the range excludes the operand 0, because `N ≥ 1` (40_commands.md R58). -/
theorem one_le_of_scaledOsc_le {f : Nat} (h : c.scaledOsc ≤ c.divisor f * 2 ^ c.res) : 1 ≤ f := by
  refine Nat.one_le_iff_ne_zero.mpr fun hf => ?_
  have : c.scaledOsc ≤ 0 := by simpa [hf, divisor] using h
  exact absurd c.scaledOsc_pos (by omega)

/-- The range is not empty or a point: `freq_min < freq_max`, because `2^RES ≥ 2`
(40_commands.md R60). -/
theorem freqMin_lt_freqMax :
    (c.oscHz : ℚ) / (4 * 2 ^ c.res * c.prescale) < (c.oscHz : ℚ) / (4 * c.prescale) := by
  obtain ⟨prescale, -⟩ := c.parameters_cast_pos
  have osc : (0 : ℚ) < c.oscHz := Nat.cast_pos.mpr c.oscHz_legal.1
  have res : (1 : ℚ) < 2 ^ c.res := one_lt_pow₀ one_lt_two (by have := c.res_legal.1; omega)
  refine div_lt_div_of_pos_left osc (by positivity) ?_
  rw [mul_right_comm]
  exact lt_mul_of_one_lt_right (by positivity) res

/-- A larger operand has a larger divisor. -/
theorem divisor_le_divisor {f g : Nat} (h : f ≤ g) : c.divisor f ≤ c.divisor g :=
  Nat.mul_le_mul_left _ h

/-- The divisor is the operand times the divisor of one operand unit. -/
theorem divisor_eq_unit_mul (f : Nat) : c.divisor f = c.divisor 1 * f := by
  rw [divisor, divisor, Nat.mul_one]

/-- The quotient of `N` by `4 * PRESCALE`, if it is not 0, is an operand in range: the largest one.
It is more than half the exact quotient, and `2^RES ≥ 2` (40_commands.md R60). -/
theorem inRange_quotient (h : c.divisor 1 ≤ c.scaledOsc) :
    c.inRange (c.scaledOsc / c.divisor 1) := by
  have unit : 0 < c.divisor 1 := c.divisor_pos 1 le_rfl
  have product := c.divisor_eq_unit_mul (c.scaledOsc / c.divisor 1)
  have one_le : 1 ≤ c.scaledOsc / c.divisor 1 := Nat.div_pos h unit
  have two_le : 2 ≤ 2 ^ c.res := Nat.le_self_pow (by have := c.res_legal.1; omega) 2
  have next_le : c.scaledOsc / c.divisor 1 + 1 ≤ c.scaledOsc / c.divisor 1 * 2 ^ c.res :=
    calc c.scaledOsc / c.divisor 1 + 1 ≤ c.scaledOsc / c.divisor 1 * 2 := by omega
      _ ≤ c.scaledOsc / c.divisor 1 * 2 ^ c.res := Nat.mul_le_mul_left _ two_le
  refine ⟨one_le, product.trans_le (Nat.mul_div_le _ _), ?_⟩
  calc c.scaledOsc ≤ c.divisor 1 * (c.scaledOsc / c.divisor 1 + 1) :=
        (Nat.lt_mul_div_succ _ unit).le
    _ ≤ c.divisor 1 * (c.scaledOsc / c.divisor 1 * 2 ^ c.res) :=
        Nat.mul_le_mul_left _ next_le
    _ = c.divisor (c.scaledOsc / c.divisor 1) * 2 ^ c.res := by rw [product, Nat.mul_assoc]

/-- Some operand up to `m` is in range exactly when `freq_max` is at least one operand unit and
`freq_min` at most `m` of them (40_commands.md R60). -/
theorem exists_inRange_iff {m : Nat} (hm : 1 ≤ m) :
    (∃ f ≤ m, c.inRange f) ↔
      c.divisor 1 ≤ c.scaledOsc ∧ c.scaledOsc ≤ c.divisor m * 2 ^ c.res := by
  constructor
  · rintro ⟨f, hfm, one_le, upper, lower⟩
    exact ⟨(c.divisor_le_divisor one_le).trans upper,
      lower.trans (Nat.mul_le_mul_right _ (c.divisor_le_divisor hfm))⟩
  · rintro ⟨upper, lower⟩
    have quotient := c.inRange_quotient upper
    obtain h | h := le_total (c.scaledOsc / c.divisor 1) m
    · exact ⟨_, h, quotient⟩
    · obtain ⟨-, le_osc, -⟩ := quotient
      exact ⟨m, le_rfl, hm, (c.divisor_le_divisor h).trans le_osc, lower⟩

/-! ### The period -/

variable {c} {f : Nat}

/-- In range the rounded quotient is at least 1, so the subtraction in the period function is exact
(40_commands.md R61). -/
theorem periodOf_add_one (h : c.inRange f) :
    c.periodOf f + 1 = roundHalfUpDiv c.scaledOsc (c.divisor f) := by
  obtain ⟨one_le, upper, -⟩ := h
  have hD := c.divisor_pos f one_le
  exact Nat.sub_add_cancel ((Nat.one_le_div_iff (by omega)).mpr (by omega))

/-- A tie rounds up (40_commands.md R60). -/
theorem periodOf_of_tie (h : c.inRange f) (tie : 2 * (c.scaledOsc % c.divisor f) = c.divisor f) :
    c.periodOf f = c.scaledOsc / c.divisor f := by
  rw [periodOf, roundHalfUpDiv_of_tie _ _ (c.divisor_pos f h.1) tie, Nat.add_sub_cancel]

/-- An exact quotient gives the period below it: `freq_max` has the quotient 1 and `freq_min` the
quotient `2^RES` (40_commands.md R60). -/
theorem periodOf_of_scaledOsc_eq {k : Nat} (h : c.inRange f)
    (quotient : c.scaledOsc = c.divisor f * k) :
    c.periodOf f = k - 1 := by
  rw [periodOf, roundHalfUpDiv_of_eq_mul (c.divisor_pos f h.1) quotient]

end Config

/-! ### The duty value -/

/-- The duty function rounds `4 * pct * (P + 1) / 100` (40_commands.md R62): numerator and
denominator of its integer form share the factor 4. -/
theorem dutyOf_eq_roundHalfUpDiv (pct period : Nat) :
    dutyOf pct period = roundHalfUpDiv (4 * pct * (period + 1)) 100 := by
  have dividend : 2 * (4 * pct * (period + 1)) + 100 = 4 * (2 * pct * (period + 1) + 25) := by ring
  rw [roundHalfUpDiv, dividend]
  exact (Nat.mul_div_mul_left _ 50 (by decide)).symm

/-- The duty of 0 % is 0 (40_commands.md R64). -/
theorem dutyOf_zero (period : Nat) : dutyOf 0 period = 0 := by
  simp [dutyOf]

/-- The duty of 100 % is full scale (40_commands.md R64). -/
theorem dutyOf_hundred (period : Nat) : dutyOf 100 period = 4 * (period + 1) := by
  unfold dutyOf
  omega

/-- The duty is monotone in the percentage (40_commands.md R64). -/
theorem dutyOf_mono {pct pct' : Nat} (h : pct' ≤ pct) (period : Nat) :
    dutyOf pct' period ≤ dutyOf pct period :=
  Nat.div_le_div_right (by gcongr)

/-- The value of the source's duty formula before it is rounded (40_commands.md R62, R64). -/
def exactDuty (pct period : Nat) : ℚ := pct / 100 * 4 * (period + 1)

/-- The exact duty in 25ths (40_commands.md R64). -/
theorem exactDuty_eq (pct period : Nat) :
    exactDuty pct period = ((pct * (period + 1) : ℕ) : ℚ) / 25 := by
  rw [exactDuty]
  push_cast
  ring

/-- The duty value is within 12/25 of the exact duty (40_commands.md R64): the error is a number of
25ths, and at most half of 25 of them. -/
theorem dutyOf_error (pct period : Nat) :
    |exactDuty pct period - dutyOf pct period| ≤ 12 / 25 := by
  obtain ⟨lower, upper⟩ := dutyOf_bounds pct period
  rw [Nat.mul_assoc] at lower upper
  have below : 25 * dutyOf pct period ≤ pct * (period + 1) + 12 := by omega
  have above : pct * (period + 1) ≤ 25 * dutyOf pct period + 12 := by omega
  rw [exactDuty_eq, abs_le]
  have below' : (25 : ℚ) * dutyOf pct period ≤ (pct * (period + 1) : ℕ) + 12 := by
    exact_mod_cast below
  have above' : ((pct * (period + 1) : ℕ) : ℚ) ≤ 25 * dutyOf pct period + 12 := by
    exact_mod_cast above
  constructor <;> linarith

/-- The exact duty is never a tie (40_commands.md R64): twice a number of 25ths is no odd multiple
of 25 of them. -/
theorem exactDuty_fract_ne_half (pct period : Nat) :
    Int.fract (exactDuty pct period) ≠ 1 / 2 := by
  intro tie
  rw [exactDuty_eq, Int.fract, sub_eq_iff_eq_add, div_eq_iff (by norm_num)] at tie
  generalize ⌊((pct * (period + 1) : ℕ) : ℚ) / 25⌋ = m at tie
  have doubled : (2 * (pct * (period + 1) : ℕ) : ℚ) = 25 + 50 * m := by
    rw [tie]
    ring
  have parity : (2 * (pct * (period + 1) : ℕ) : ℤ) = 25 + 50 * m := by exact_mod_cast doubled
  omega

/-- The duty value is the only integer nearest to the exact duty (40_commands.md R64): another one
as near would be within 24/25 of the duty value. -/
theorem eq_dutyOf_of_nearest {pct period : Nat} {n : ℤ}
    (nearest : ∀ m : ℤ, |exactDuty pct period - n| ≤ |exactDuty pct period - m|) :
    n = dutyOf pct period := by
  have duty := dutyOf_error pct period
  have near := (nearest (dutyOf pct period)).trans duty
  rw [abs_le] at duty near
  have upper : (n : ℚ) < (dutyOf pct period : ℤ) + 1 := by push_cast; linarith
  have lower : ((dutyOf pct period : ℤ) : ℚ) < n + 1 := by push_cast; linarith
  exact le_antisymm (Int.lt_add_one_iff.mp (by exact_mod_cast upper))
    (Int.lt_add_one_iff.mp (by exact_mod_cast lower))

end Sys2Proof
end

section
/-! PROOFS. The statements of 40_commands.md. -/

namespace Sys2Proof

/-! ### The period (R58, R59, R61, R65) -/

/-- Settles O3: each end of the range is one of the two inequalities, and the lower one excludes the
operand 0. -/
theorem inRangeIsTheFrequencyRange : Obligations.InRangeIsTheFrequencyRange := by
  refine fun c f => ⟨Iff.rfl, ?_⟩
  rw [c.freqMin_le_iff, c.le_freqMax_iff]
  exact ⟨fun ⟨_, upper, lower⟩ => ⟨lower, upper⟩,
    fun ⟨lower, upper⟩ => ⟨c.one_le_of_scaledOsc_le lower, upper, lower⟩⟩

/-- Settles O4: the quotient rounded is `N / D`, which is the source's quotient. -/
theorem periodIsTheRoundedFormula : Obligations.PeriodIsTheRoundedFormula := by
  intro c f h
  obtain ⟨prescale, scale⟩ := c.parameters_cast_pos
  have operand : (0 : ℚ) < f := Nat.cast_pos.mpr h.1
  have floor : (c.periodOf f : ℤ) =
      ⌊(c.oscHz * c.freqScale : ℚ) / (4 * c.prescale * f) + 1 / 2⌋ - 1 := by
    have rounded := roundHalfUpDiv_eq_floor c.scaledOsc (c.divisor f) (c.divisor_pos f h.1)
    rw [← Config.periodOf_add_one h] at rounded
    push_cast [Config.scaledOsc, Config.divisor] at rounded
    exact eq_sub_of_add_eq rounded
  have source : (1 / 4 : ℚ) * c.oscHz / ((f : ℚ) / c.freqScale) / c.prescale =
      (c.oscHz * c.freqScale : ℚ) / (4 * c.prescale * f) := by
    field_simp
  exact ⟨rfl, floor, source ▸ floor⟩

/-- Settles O5: the quotient is the period and 1, and the period fits by `Config.periodOf_lt`. -/
theorem periodInRangeFits : Obligations.PeriodInRangeFits := by
  intro c f h
  have quotient : c.periodOf f + 1 =
      (2 * (c.oscHz * c.freqScale) + 4 * c.prescale * f) / (2 * (4 * c.prescale * f)) :=
    Config.periodOf_add_one h
  have fits := Config.periodOf_lt h
  rw [← quotient]
  omega

/-- Settles O6: the rounding error of the period, over `P + 1`. -/
theorem periodRoundTripAccuracy : Obligations.PeriodRoundTripAccuracy := by
  intro c f h r p1 target rederived
  obtain ⟨prescale, scale⟩ := c.parameters_cast_pos
  have operand : (0 : ℚ) < f := Nat.cast_pos.mpr h.1
  have p1_pos : 0 < p1 := by positivity
  have target_pos : 0 < target := by positivity
  obtain ⟨lower, upper⟩ : -(1 / 2 : ℚ) ≤ r - p1 ∧ r - p1 < 1 / 2 := by
    have error := roundHalfUpDiv_error c.scaledOsc (c.divisor f) (c.divisor_pos f h.1)
    rw [← Config.periodOf_add_one h] at error
    push_cast [Config.scaledOsc, Config.divisor] at error
    exact error
  have rederived_eq : rederived = target * r / p1 := by
    simp only [rederived, target, r]
    field_simp
  refine ⟨lower, upper, rederived_eq, ?_⟩
  calc |rederived - target| / target = |r - p1| / p1 := by
        rw [rederived_eq, relative_error_eq r target_pos p1_pos]
    _ ≤ 1 / 2 / p1 := by
        have half : |r - p1| ≤ 1 / 2 := abs_le.mpr ⟨lower, upper.le⟩
        gcongr
    _ = 1 / (2 * p1) := div_div _ _ _

/-! ### The duty value (R62, R64, R66) -/

/-- Settles O7, from the duty function as a rounded quotient by 100. -/
theorem dutyIsTheRoundedFormula : Obligations.DutyIsTheRoundedFormula := by
  intro pct period
  have source : (pct : ℚ) / 100 * (period + 1) * 4 =
      ((4 * pct * (period + 1) : ℕ) : ℚ) / (100 : ℕ) := by
    push_cast
    ring
  refine ⟨rfl, ?_⟩
  rw [dutyOf_eq_roundHalfUpDiv, source]
  exact roundHalfUpDiv_eq_floor _ 100 (by decide)

/-- Settles O8, law by law. -/
theorem dutyLawsHold : Obligations.DutyLawsHold := by
  intro c pct period hp hperiod
  have full_scale : 4 * (period + 1) ≤ 2 ^ (c.res + 2) := by
    rw [← c.full_scale_pmax]
    gcongr
    exact hperiod
  exact ⟨dutyOf_zero period, dutyOf_hundred period, fun _ h => dutyOf_mono h period,
    dutyOf_le_full_scale hp period, full_scale, Nat.pow_lt_pow_right (by decide) (by omega),
    exactDuty_fract_ne_half pct period, fun _ => eq_dutyOf_of_nearest, dutyOf_error pct period⟩

/-- Settles O9: the error of the duty value, over full scale. -/
theorem dutyAccuracy : Obligations.DutyAccuracy := by
  intro pct period
  have scale : (0 : ℚ) < 4 * (period + 1) := by positivity
  have ratio : (dutyOf pct period : ℚ) / (4 * (period + 1)) - (pct : ℚ) / 100 =
      -(exactDuty pct period - dutyOf pct period) / (4 * (period + 1)) := by
    rw [exactDuty]
    field_simp
    ring
  refine ⟨?_, ?_⟩
  · calc |(dutyOf pct period : ℚ) / (4 * (period + 1)) - (pct : ℚ) / 100|
        = |exactDuty pct period - dutyOf pct period| / (4 * (period + 1)) := by
          rw [ratio, abs_div, abs_neg, abs_of_pos scale]
      _ ≤ 12 / 25 / (4 * (period + 1)) := by
          have := dutyOf_error pct period
          gcongr
      _ = 12 / (100 * (period + 1)) := by
          field_simp
          norm_num
  · rw [div_lt_div_iff₀ (by positivity) scale]
    linarith

namespace Machine

/-! ### `WR FREQ_CMD` (R60) -/

/-- An accepted `WR FREQ_CMD`, with the corner cases of its period (40_commands.md R60). -/
theorem exec_wrFreqCmd_accepted {s : State} {F : Word} (h : s.cfg.inRange F.toNat) :
    ∃ t, exec (.wrFreqCmd F) s = .next t ∧
      t = { s with
        period := BitVec.ofNat s.cfg.res (s.cfg.periodOf F.toNat)
        init := true, dutyCur := false, err := .noError
        responses := ⟨.okay, 0#32⟩ :: s.responses } ∧
      t.period.toNat = s.cfg.periodOf F.toNat ∧
      exec (.wrFreqCmd F) t = .next { t with responses := ⟨.okay, 0#32⟩ :: t.responses } :=
  ⟨_, exec_wrFreqCmd_of_inRange h, rfl, s.toNat_ofNat_periodOf h, exec_wrFreqCmd_of_inRange h⟩

/-- No operand is in range exactly when `freq_max` is below one operand unit or `freq_min` above the
largest operand (40_commands.md R60). -/
theorem no_operand_inRange_iff (c : Config) :
    (∀ G : Word, ¬ c.inRange G.toNat) ↔
      (c.oscHz : ℚ) / (4 * c.prescale) < 1 / c.freqScale ∨
        (2 ^ 32 - 1 : ℚ) / c.freqScale < (c.oscHz : ℚ) / (4 * 2 ^ c.res * c.prescale) := by
  have operands : (∃ G : Word, c.inRange G.toNat) ↔ ∃ f ≤ 2 ^ 32 - 1, c.inRange f :=
    ⟨fun ⟨G, h⟩ => ⟨G.toNat, Nat.le_sub_one_of_lt G.isLt, h⟩,
      fun ⟨f, hf, h⟩ => ⟨BitVec.ofNat 32 f, by
        rwa [BitVec.toNat_ofNat, Nat.mod_eq_of_lt (by omega)]⟩⟩
  have largest : (2 ^ 32 - 1 : ℚ) = ((2 ^ 32 - 1 : ℕ) : ℚ) := by norm_num
  rw [← not_exists, operands, c.exists_inRange_iff (by decide), ← c.le_freqMax_iff,
    ← c.freqMin_le_iff, not_and_or, not_le, not_le, largest, Nat.cast_one]

/-- Settles O20: the accepted and the rejected command, and the ends of the range. -/
theorem setFrequency : Obligations.SetFrequency := by
  intro s F N D q rejected
  have reject (h : ¬ s.cfg.inRange F.toNat) : exec (.wrFreqCmd F) s = .next rejected :=
    exec_wrFreqCmd_of_not_inRange h
  refine ⟨decode_write_offset .freqCmd F, fun one_le upper lower => ?_,
    fun zero => reject fun h => ?_, fun above => reject fun h => ?_,
    fun below => reject fun h => ?_, fun h => ⟨reject h, exec_wrFreqCmd_of_not_inRange h⟩,
    s.cfg.freqMin_lt_freqMax, no_operand_inRange_iff s.cfg, fun cfg_eq F_eq => ?_⟩
  · have h : s.cfg.inRange F.toNat := ⟨one_le, upper, lower⟩
    obtain ⟨one_le_q, q_le, -⟩ := periodInRangeFits s.cfg F.toNat h
    obtain ⟨t, ht, t_eq, period, again⟩ := exec_wrFreqCmd_accepted h
    refine ⟨t, ht, t_eq, period, one_le_q, q_le, fun tie => ?_, fun freqMax => ?_,
      fun freqMin => ?_, again⟩
    · exact period.trans (Config.periodOf_of_tie h tie)
    · have unit : N = D * 1 := freqMax.symm.trans (Nat.mul_one D).symm
      exact period.trans (Config.periodOf_of_scaledOsc_eq h unit)
    · exact period.trans (Config.periodOf_of_scaledOsc_eq h freqMin)
  · exact absurd h.1 (by omega)
  · exact absurd h.2.1 (Nat.not_le.mpr above)
  · exact absurd h.2.2 (Nat.not_le.mpr below)
  · subst F_eq
    have h : s.cfg.inRange (104650#32).toNat := by
      rw [cfg_eq]
      decide
    obtain ⟨t, ht, t_eq, period, -⟩ := exec_wrFreqCmd_accepted h
    refine ⟨t, ht, ?_, by rw [t_eq]⟩
    rw [period, cfg_eq]
    rfl

/-! ### `WR PCT_CMD` (R63) -/

/-- Settles O21: the accepted command writes the duty value of the percentage, whose corner cases
are the laws of R64; the two rejected ones set only `ERR`. -/
theorem setDutyCycle : Obligations.SetDutyCycle := by
  intro s pct d rejected
  refine ⟨decode_write_offset .pctCmd pct, fun hi hp => ?_, fun hi => ?_, fun hi hp => ?_⟩
  · have duty : (BitVec.ofNat (s.cfg.res + 3) d).toNat = dutyOf pct.toNat s.period.toNat :=
      s.toNat_ofNat_dutyOf hp
    have full (hundred : pct.toNat = 100) :
        (BitVec.ofNat (s.cfg.res + 3) d).toNat = 4 * (s.period.toNat + 1) := by
      rw [duty, hundred, dutyOf_hundred]
    refine ⟨_, exec_wrPctCmd_of_valid hi hp, rfl, duty, fun zero => ?_, full,
      fun hundred pmax => ?_, fun period => ?_, fun period ten => ?_, exec_wrPctCmd_of_valid hi hp⟩
    · exact duty.trans (by rw [zero, dutyOf_zero])
    · exact (full hundred).trans (by rw [pmax]; exact s.cfg.full_scale_pmax)
    · exact duty.trans_le (by simpa [period] using dutyOf_le_full_scale hp s.period.toNat)
    · have sixty : (BitVec.ofNat (s.cfg.res + 3) d).toNat = 60 := by
        rw [duty, period, ten]
        rfl
      rw [State.dutyHi_toNat, State.dutyLo_toNat]
      exact ⟨sixty, congrArg (· / 4) sixty, congrArg (· % 4) sixty⟩
  · exact ⟨exec_wrPctCmd_of_not_init hi pct, exec_wrPctCmd_of_not_init (by exact hi) pct⟩
  · exact ⟨exec_wrPctCmd_of_invalid hi (by omega), exec_wrPctCmd_of_invalid hi (by omega)⟩

/-! ### Failed commands (R67) -/

/-- Settles O22: an accepted command leaves `ERR` clear, and each rejected one sets `ERR` alone. -/
theorem failedCommandChangesOnlyErr : Obligations.FailedCommandChangesOnlyErr := by
  intro i s t hc h failed
  obtain ⟨f, -, hx⟩ | ⟨pct, -, hx⟩ | ⟨-, hc', -⟩ | ⟨hc', -⟩ := exec_cases i s
  · cases hx.symm.trans h
    obtain ⟨-, ht⟩ | ⟨-, ht⟩ := setFrequency_cases s f.toNat <;> rw [ht] at failed ⊢
    exact absurd rfl failed
  · cases hx.symm.trans h
    obtain ⟨-, -, ht⟩ | ⟨-, ht⟩ | ⟨-, -, ht⟩ := setDutyCycle_cases s pct.toNat <;>
      rw [ht] at failed ⊢
    exact absurd rfl failed
  · exact absurd (hc.symm.trans hc') (by decide)
  · exact absurd (hc.symm.trans hc') (by decide)

end Machine

end Sys2Proof
end

section
/-! PROOFS. The statements of 41_reads.md: what an instruction with a register to read answers (R70),
and what each register then returns (R71 to R77). -/

namespace Sys2Proof

/-! ### The read instructions (R70) -/

/-- An instruction of the read class has a register to read (41_reads.md R71 to R81). -/
theorem exists_readTarget_of_read {i : Instr} (h : i.cls = .read) : ∃ r, i.readTarget = some r := by
  cases i <;> cases h <;> exact ⟨_, rfl⟩

/-- An instruction that reads a register is a read at the register's offset (10_state.md R25). -/
theorem fields_of_readTarget {i : Instr} {r : Reg} (h : i.readTarget = some r) :
    i.wField = .read ∧ i.offField = r.offset := by
  cases i <;> cases h <;> exact ⟨rfl, rfl⟩

/-- The read at a register's offset reads that register (30_encoding.md R48). -/
theorem decodeRead_readTarget (data : Word) (r : Reg) : (decodeRead data r).readTarget = some r := by
  cases r <;> rfl

namespace Machine

/-- A read instruction answers `OKAY` with its register's value and changes nothing else. -/
theorem exec_read_eq {i : Instr} {r : Reg} (h : i.readTarget = some r) (s : State) :
    exec i s = .next { s with responses := ⟨.okay, s.readReg r⟩ :: s.responses } := by
  rw [exec_of_readTarget h, performRead_eq]

/-- Right after reset, a read of a register whose value is then 0 answers `OKAY, 0`. -/
theorem exec_read_resetOf {i : Instr} {r : Reg} (h : i.readTarget = some r) {c : Config}
    {p : Platform} (value : (State.resetOf c p).readReg r = 0#32) :
    exec i (State.resetOf c p) =
      .next { State.resetOf c p with responses := [⟨.okay, 0#32⟩] } := by
  rw [exec_read_eq h, value]
  rfl

/-- The read at a register's offset is performed as any instruction that reads the register: its
`DATA` has no effect (30_encoding.md R47). -/
theorem exec_decode_read_offset {i : Instr} {r : Reg} (h : i.readTarget = some r) (data : Word)
    (s : State) : exec (decode (packWord .read r.offset data)) s = exec i s := by
  rw [decode_read_offset, exec_of_readTarget (decodeRead_readTarget data r), exec_of_readTarget h]

/-! ### What the views of `DUTY` and `STATUS` read as -/

section Views

variable (s : State)

/-- `DUTY_HI` reads as its value (41_reads.md R75). -/
theorem State.readReg_dutyHi_toNat : (s.readReg .dutyHi).toNat = s.dutyHi.toNat :=
  BitVec.toNat_setWidth_of_le (by have := s.cfg.res_legal.2; omega)

/-- `DUTY_LO` reads as its value (41_reads.md R76). -/
theorem State.readReg_dutyLo_toNat : (s.readReg .dutyLo).toNat = s.dutyLo.toNat :=
  BitVec.toNat_setWidth_of_le (by decide)

/-- `STATUS` reads as its used bits (41_reads.md R77). -/
theorem State.readReg_status_toNat : (s.readReg .status).toNat = s.statusBits.toNat :=
  s.statusWord_toNat

end Views

/-- `PERIOD` reads as 0 after reset (10_state.md R29, 41_reads.md R73). -/
theorem State.readReg_period_resetOf (c : Config) (p : Platform) :
    (State.resetOf c p).readReg .period = 0#32 :=
  BitVec.eq_of_toNat_eq (State.readReg_period_toNat _)

/-! ### The statements -/

/-- Settles O24: the instruction's register, its fields, its answer, and the value of each
register. -/
theorem everyMappedReadAnswersOkay : Obligations.EveryMappedReadAnswersOkay := by
  intro i s hc
  obtain ⟨r, hr⟩ := exists_readTarget_of_read hc
  obtain ⟨w, off⟩ := fields_of_readTarget hr
  exact ⟨r, hr, w, off, exec_read_eq hr s, fun d => exec_decode_read_offset hr d s,
    s.readReg_period_toNat, s.readReg_duty_toNat, s.readReg_dutyHi_toNat, s.readReg_dutyLo_toNat,
    s.readReg_status_toNat, rfl, rfl, s.readReg_cfgOsc_toNat, s.readReg_cfgPrescale_toNat,
    s.readReg_cfgRes_toNat, s.readReg_cfgFscale_toNat⟩

/-- Settles O25: the command registers have no storage, so their value is 0 in every state. -/
theorem commandRegistersReadZero : Obligations.CommandRegistersReadZero :=
  fun data s => ⟨decode_read_offset .freqCmd data, exec_read_eq (r := .freqCmd) rfl s,
    decode_read_offset .pctCmd data, exec_read_eq (r := .pctCmd) rfl s⟩

/-- Settles O26: `PERIOD` keeps its value under the zeros, and its width bounds it. -/
theorem rdPeriodReturnsPeriod : Obligations.RdPeriodReturnsPeriod := by
  intro data s
  have value := s.readReg_period_toNat
  exact ⟨decode_read_offset .period data,
    ⟨_, exec_read_eq rfl s, value, value.trans_le s.period_toNat_le,
      fun h => BitVec.eq_of_toNat_eq (value.trans h)⟩,
    fun c p => exec_read_resetOf rfl (State.readReg_period_resetOf c p)⟩

/-- Settles O27: `DUTY` keeps its value under the zeros, at full scale too. -/
theorem rdDutyReturnsDuty : Obligations.RdDutyReturnsDuty := by
  intro data s
  have value := s.readReg_duty_toNat
  exact ⟨decode_read_offset .duty data, _, exec_read_eq rfl s, value, value.trans,
    fun h => BitVec.eq_of_toNat_eq (value.trans h)⟩

/-- Settles O28: `DUTY_HI` is the quotient of `DUTY` by 4, and its width bounds it. -/
theorem rdDutyHiReturnsHighBits : Obligations.RdDutyHiReturnsHighBits := by
  intro data s
  have value : (s.readReg .dutyHi).toNat = s.duty.toNat / 4 :=
    s.readReg_dutyHi_toNat.trans s.dutyHi_toNat
  refine ⟨decode_read_offset .dutyHi data, _, exec_read_eq rfl s, value,
    s.readReg_dutyHi_toNat.trans_lt s.dutyHi.isLt, fun h => ?_, fun h => ?_⟩
  · rw [value, h]
  · exact BitVec.eq_of_toNat_eq (by rw [value, h]; rfl)

/-- Settles O29: `DUTY_LO` is the remainder of `DUTY` by 4, so its bits from 2 on are 0. -/
theorem rdDutyLoReturnsLowBits : Obligations.RdDutyLoReturnsLowBits := by
  intro data s
  have value : (s.readReg .dutyLo).toNat = s.duty.toNat % 4 :=
    s.readReg_dutyLo_toNat.trans s.dutyLo_toNat
  refine ⟨decode_read_offset .dutyLo data, _, exec_read_eq rfl s, value,
    extractLsb'_eq_zero_of_lt (by omega) 30, fun h => ?_⟩
  exact BitVec.eq_of_toNat_eq (by rw [value, h]; rfl)

/-- Settles O30: `STATUS` is its three fields, each at its weight, and reads as 0 after reset. -/
theorem rdStatusReturnsStatus : Obligations.RdStatusReturnsStatus := by
  intro data s
  have value := s.readReg_status_toNat.trans s.statusBits_toNat
  refine ⟨decode_read_offset .status data, ⟨_, exec_read_eq rfl s, value, fun he hi hd => ?_⟩,
    fun c p => exec_read_resetOf (r := .status) rfl (State.statusWord_resetOf c p)⟩
  exact BitVec.eq_of_toNat_eq (by rw [value, he, hi, hd]; rfl)

end Machine

end Sys2Proof
end

section
/-! PROOFS. The statements of 42_bus_errors.md: what an instruction of the bus-error class answers
(R82), and which transactions decode to one (R84 to R86). -/

namespace Sys2Proof

/-- A misaligned offset, an offset above the registers, and a write above the command registers each
select an instruction of the bus-error class (42_bus_errors.md R84 to R86). -/
theorem decodeFields_cls_eq_busError {w : Dir} {off : Offset}
    (h : off.toNat % 4 ≠ 0 ∨ 0x28 < off.toNat ∨ (w = .write ∧ 0x08 ≤ off.toNat)) (data : Word) :
    (decodeFields w off data).cls = .busError := by
  have notCommand : ¬ (w = .write ∧ (off.toNat = 0x00 ∨ off.toNat = 0x04)) := by omega
  have notRead : ¬ (w = .read ∧ off.toNat % 4 = 0 ∧ off.toNat ≤ 0x28) := by
    rintro ⟨rfl, aligned, mapped⟩
    obtain misaligned | above | ⟨write, -⟩ := h
    · exact misaligned aligned
    · omega
    · cases write
  rw [decodeFields_cls, if_neg notCommand, if_neg notRead]

namespace Machine

/-! ### What a bus-error transaction answers (R82) -/

/-- An instruction of the bus-error class answers `BUSERR, 0` and changes nothing. -/
theorem exec_busError_eq {i : Instr} (h : i.cls = .busError) (s : State) :
    exec i s = .next { s with responses := ⟨.busErr, 0#32⟩ :: s.responses } := by
  rw [exec_of_busError h, raiseBusError_eq]

/-- The transactions of 42_bus_errors.md answer `BUSERR, 0` and change nothing, whatever their
`DATA`. -/
theorem exec_decode_busError {w : Dir} {off : Offset}
    (h : off.toNat % 4 ≠ 0 ∨ 0x28 < off.toNat ∨ (w = .write ∧ 0x08 ≤ off.toNat)) (data : Word)
    (s : State) :
    exec (decode (packWord w off data)) s =
      .next { s with responses := ⟨.busErr, 0#32⟩ :: s.responses } := by
  rw [decode_packWord]
  exact exec_busError_eq (decodeFields_cls_eq_busError h data) s

/-- The registers above the command registers are read-only: a write is decoded as the register's own
row and refused (42_bus_errors.md R84). -/
theorem write_readOnly {r : Reg} (h : 0x08 ≤ r.offset.toNat) (v : Word) (s : State) :
    decode (packWord .write r.offset v) = decodeWrite v r ∧
      exec (decodeWrite v r) s =
        .next { s with responses := ⟨.busErr, 0#32⟩ :: s.responses } := by
  have refused := exec_decode_busError (.inr (.inr ⟨rfl, h⟩)) v s
  rw [decode_write_offset] at refused
  exact ⟨decode_write_offset r v, refused⟩

/-! ### The statements -/

/-- Settles O32: the nine registers above the command registers, by their offsets. -/
theorem readOnlyWritesAreBusErrors : Obligations.ReadOnlyWritesAreBusErrors := by
  intro v s
  have write {r : Reg} (h : 0x08 ≤ r.offset.toNat) := write_readOnly h v s
  exact ⟨write (r := .period) (by decide), write (r := .duty) (by decide),
    write (r := .dutyHi) (by decide), write (r := .dutyLo) (by decide),
    write (r := .status) (by decide), write (r := .cfgOsc) (by decide),
    write (r := .cfgPrescale) (by decide), write (r := .cfgRes) (by decide),
    write (r := .cfgFscale) (by decide), rfl⟩

/-- Settles O33: a reserved offset lies above the registers; the offsets are counted in 8 blocks
of 32. -/
theorem reservedOffsetsAreBusErrors : Obligations.ReservedOffsetsAreBusErrors := by
  refine ⟨fun w off d s => ⟨fun _ reserved => ?_, exec_busError_eq rfl s, exec_busError_eq rfl s,
    exec_busError_eq rfl s, exec_busError_eq rfl s⟩, ?_, rfl⟩
  · exact exec_decode_busError (.inr (.inl (by omega))) d s
  · exact (length_filter_range_mul _ 8 32).trans (by decide)

/-- Settles O34: misalignment alone selects a bus error, in either direction; the offsets are counted
in 8 blocks of 32. -/
theorem misalignedAccessesAreBusErrors : Obligations.MisalignedAccessesAreBusErrors := by
  refine ⟨fun w off d s => ⟨fun misaligned => ?_, exec_busError_eq rfl s, exec_busError_eq rfl s,
    exec_busError_eq rfl s⟩, ?_, rfl⟩
  · exact exec_decode_busError (.inl misaligned) d s
  · exact (length_filter_range_mul _ 8 32).trans (by decide)

end Machine

end Sys2Proof
end

section
/-! PROOFS. The statements of 60_exceptions.md: the errors a command raises (R87 to R90), the response
of each outcome of an instruction (R91, R92), the order of the checks (R95), and runs that never stop
(R93). -/

namespace Sys2Proof

/-- The transactions of the bus-error class, by direction and offset (60_exceptions.md R92). -/
theorem decodeFields_cls_eq_busError_iff {w : Dir} {off : Offset} {data : Word} :
    (decodeFields w off data).cls = .busError ↔
      off.toNat % 4 ≠ 0 ∨ 0x28 < off.toNat ∨ (w = .write ∧ 0x08 ≤ off.toNat) := by
  refine ⟨fun busError => ?_, fun h => decodeFields_cls_eq_busError h data⟩
  rw [decodeFields_cls] at busError
  split_ifs at busError with notCommand notRead
  cases w
  · have unmapped : ¬ (off.toNat % 4 = 0 ∧ off.toNat ≤ 0x28) := fun h => notRead ⟨rfl, h⟩
    omega
  · have noCommandOffset : ¬ (off.toNat = 0x00 ∨ off.toNat = 0x04) := fun h => notCommand ⟨rfl, h⟩
    simp only [true_and]
    omega

namespace Machine

/-! ### The errors of the commands (R87 to R90) -/

/-- The table of 60_exceptions.md R87, its command errors: in state `s` the instruction raises the
error with this code. -/
inductive CommandError (s : State) : Instr → ErrCode → Prop
  | outOfRange {f : Word} (h : ¬ s.cfg.inRange f.toNat) : CommandError s (.wrFreqCmd f) .outOfRange
  | notInitialized (pct : Word) (h : s.init = false) :
    CommandError s (.wrPctCmd pct) .notInitialized
  | invalidPercentage {pct : Word} (hi : s.init = true) (hp : ¬ pct.toNat ≤ 100) :
    CommandError s (.wrPctCmd pct) .invalidPercentage

section Errors

variable {i : Instr} {s t : State} {e : ErrCode}

/-- An instruction that raises a command error records its code in `ERR`, answers `CMDERR, 0` and
changes nothing else. -/
theorem CommandError.exec_eq (h : CommandError s i e) :
    exec i s = .next { s with err := e, responses := ⟨.cmdErr, 0#32⟩ :: s.responses } := by
  cases h with
  | outOfRange h => exact exec_wrFreqCmd_of_not_inRange h
  | notInitialized pct h => exact exec_wrPctCmd_of_not_init h pct
  | invalidPercentage hi hp => exact exec_wrPctCmd_of_invalid hi hp

/-- Only commands raise command errors. -/
theorem CommandError.cls_eq (h : CommandError s i e) : i.cls = .command := by
  cases h <;> rfl

/-- Code 0 of `ERR` is no error. -/
theorem CommandError.ne_noError (h : CommandError s i e) : e ≠ .noError := by
  cases h <;> decide

/-- The operand alone decides `OUT_OF_RANGE` (60_exceptions.md R88). -/
theorem commandError_outOfRange_iff :
    CommandError s i .outOfRange ↔ ∃ f, i = .wrFreqCmd f ∧ ¬ s.cfg.inRange f.toNat := by
  constructor
  · intro error
    cases error with
    | outOfRange h => exact ⟨_, rfl, h⟩
  · rintro ⟨f, rfl, h⟩
    exact .outOfRange h

/-- `INIT` alone decides `NOT_INITIALIZED` (60_exceptions.md R89). -/
theorem commandError_notInitialized_iff :
    CommandError s i .notInitialized ↔ ∃ pct, i = .wrPctCmd pct ∧ s.init = false := by
  constructor
  · intro error
    cases error with
    | notInitialized pct h => exact ⟨pct, rfl, h⟩
  · rintro ⟨pct, rfl, h⟩
    exact .notInitialized pct h

/-- `INVALID_PERCENTAGE` is looked at once `INIT` is set (60_exceptions.md R90). -/
theorem commandError_invalidPercentage_iff :
    CommandError s i .invalidPercentage ↔
      ∃ pct, i = .wrPctCmd pct ∧ s.init = true ∧ 100 < pct.toNat := by
  constructor
  · intro error
    cases error with
    | invalidPercentage hi hp => exact ⟨_, rfl, hi, not_le.mp hp⟩
  · rintro ⟨pct, rfl, hi, hp⟩
    exact .invalidPercentage hi (not_le.mpr hp)

/-! ### The response of each outcome (R91) -/

/-- Everything an instruction can answer: `OKAY` for a read or a command without error, `CMDERR` for
a command error, `BUSERR` for the bus-error class. -/
theorem exec_outcomes (h : exec i s = .next t) :
    (i.cls ≠ .busError ∧ (i.cls = .command → t.err = .noError) ∧
      ∃ d, t.lastResponse = some ⟨.okay, d⟩) ∨
    (∃ e, CommandError s i e ∧
      t = { s with err := e, responses := ⟨.cmdErr, 0#32⟩ :: s.responses }) ∨
    (i.cls = .busError ∧ t = { s with responses := ⟨.busErr, 0#32⟩ :: s.responses }) := by
  obtain ⟨f, rfl, hx⟩ | ⟨pct, rfl, hx⟩ | ⟨r, hc, -, hx⟩ | ⟨hc, hx⟩ := exec_cases i s <;>
    cases hx.symm.trans h
  case inl =>
    obtain ⟨-, ht⟩ | ⟨hf, ht⟩ := setFrequency_cases s f.toNat
    · rw [ht]
      exact .inl ⟨nofun, fun _ => rfl, _, rfl⟩
    · exact .inr (.inl ⟨_, .outOfRange hf, ht⟩)
  case inr.inl =>
    obtain ⟨-, -, ht⟩ | ⟨hi, ht⟩ | ⟨hi, hp, ht⟩ := setDutyCycle_cases s pct.toNat
    · rw [ht]
      exact .inl ⟨nofun, fun _ => rfl, _, rfl⟩
    · exact .inr (.inl ⟨_, .notInitialized pct hi, ht⟩)
    · exact .inr (.inl ⟨_, .invalidPercentage hi hp, ht⟩)
  case inr.inr.inl => rw [hc]; exact .inl ⟨nofun, nofun, _, rfl⟩
  case inr.inr.inr => exact .inr (.inr ⟨hc, raiseBusError_eq s⟩)

/-- `CMDERR` is the response to a command error, and `ERR` then holds the error's code. -/
theorem exec_cmdErr_iff (h : exec i s = .next t) :
    t.lastResponse = some ⟨.cmdErr, 0#32⟩ ∧ t.err = e ↔ CommandError s i e := by
  constructor
  · rintro ⟨response, rfl⟩
    obtain ⟨-, -, d, okay⟩ | ⟨e, error, rfl⟩ | ⟨-, rfl⟩ := exec_outcomes h
    · cases okay.symm.trans response
    · exact error
    · cases response
  · intro error
    cases error.exec_eq.symm.trans h
    exact ⟨rfl, rfl⟩

/-- `BUSERR` is the response of the bus-error class. -/
theorem exec_busErr_iff (h : exec i s = .next t) :
    t.lastResponse = some ⟨.busErr, 0#32⟩ ↔ i.cls = .busError := by
  constructor
  · intro response
    obtain ⟨-, -, d, okay⟩ | ⟨e, -, rfl⟩ | ⟨busError, -⟩ := exec_outcomes h
    · cases okay.symm.trans response
    · cases response
    · exact busError
  · intro busError
    cases (exec_busError_eq busError s).symm.trans h
    rfl

/-- `CMDERR` and a code in `ERR`, as the bits a host reads, are the error with that code. -/
theorem exec_cmdErr_bits_iff (h : exec i s = .next t) :
    t.lastResponse = some ⟨.cmdErr, 0#32⟩ ∧ t.err.bits = e.bits ↔ CommandError s i e := by
  have sameCode : t.err.bits = e.bits ↔ t.err = e :=
    ⟨ErrCode.bits_injective, congrArg ErrCode.bits⟩
  rw [sameCode, exec_cmdErr_iff h]

end Errors

/-! ### Runs (R93) -/

/-- A run of any length goes on. -/
theorem run_total (k : Nat) (s : State) : ∃ t, Sys2Proof.core.run k s = .next t := by
  induction k generalizing s with
  | zero => exact ⟨s, run_zero s⟩
  | succ k ih =>
    obtain ⟨u, hu⟩ := step_total s
    rw [run_succ k hu]
    exact ih u

/-! ### The statements -/

/-- Settles O35: `BUSERR` is the bus-error class, and the class is the direction's and the offset's. -/
theorem busErrorExactlyForBadOffsetOrDirection :
    Obligations.BusErrorExactlyForBadOffsetOrDirection := by
  intro w off d s t h
  rw [exec_busErr_iff h, decode_packWord, decodeFields_cls_eq_busError_iff]
  cases w
  · simp only [reduceCtorEq, false_and, or_false]
    omega
  · simp only [true_and]
    omega

/-- Settles O48: each row of the table by its clause of `CommandError`, and the frame of both kinds of
error by the outcomes of an instruction. -/
theorem errorsRaisedExactlyWhen : Obligations.ErrorsRaisedExactlyWhen := by
  intro i s t h
  refine ⟨(exec_cmdErr_bits_iff (e := .outOfRange) h).trans commandError_outOfRange_iff,
    (exec_cmdErr_bits_iff (e := .notInitialized) h).trans commandError_notInitialized_iff,
    (exec_cmdErr_bits_iff (e := .invalidPercentage) h).trans commandError_invalidPercentage_iff,
    exec_busErr_iff h, fun response => ?_, fun response => ?_⟩
  · have error : CommandError s i t.err := (exec_cmdErr_iff h).mp ⟨response, rfl⟩
    exact Host.Outcome.next.inj (h.symm.trans error.exec_eq)
  · have busError : i.cls = .busError := (exec_busErr_iff h).mp response
    exact Host.Outcome.next.inj (h.symm.trans (exec_busError_eq busError s))

/-- Settles O49: each outcome of an instruction has one response code. -/
theorem responseCodesMean : Obligations.ResponseCodesMean := by
  refine ⟨⟨rfl, rfl, rfl, fun r => by cases r <;> decide⟩, fun i s t r h response => ?_⟩
  obtain ⟨notBusError, noError, d, okay⟩ | ⟨e, error, rfl⟩ | ⟨busError, rfl⟩ := exec_outcomes h
  · cases okay.symm.trans response
    exact ⟨fun _ => ⟨notBusError, noError⟩, nofun, nofun⟩
  · cases response
    exact ⟨nofun, fun _ => ⟨error.cls_eq, error.ne_noError, rfl⟩, nofun⟩
  · cases response
    exact ⟨nofun, nofun, fun _ => ⟨busError, rfl⟩⟩

/-- Settles O50: the class is decoded without `DATA`, and `set_duty_cycle` looks at `INIT` first. -/
theorem errorPriority : Obligations.ErrorPriority := by
  refine ⟨fun w off d d' s busError => ?_, fun s pct hi _ => exec_wrPctCmd_of_not_init hi pct,
    fun s t F h => ?_⟩
  · rw [decode_packWord] at busError ⊢
    obtain ⟨-, sameClass, -⟩ := decodeFields_ignores_data w off d d'
    exact exec_busError_eq (sameClass.symm.trans busError) s
  · obtain ⟨-, noError, -⟩ | ⟨e, ⟨-⟩, rfl⟩ | ⟨busError, -⟩ := exec_outcomes h
    · exact .inl (noError rfl)
    · exact .inr rfl
    · cases busError

/-- Settles O51: every step goes on, and the step that takes a transaction performs it, which gives
one response. -/
theorem theBlockNeverStops : Obligations.TheBlockNeverStops := by
  refine ⟨fun s k => run_total k s, fun s w rest hp => ?_⟩
  have performed := step_perform s w rest
  rw [← hp] at performed
  obtain ⟨r, response, -⟩ := exec_response (exec_decode_eq_perform s w)
  exact ⟨_, r, performed, rfl, response⟩

end Machine

end Sys2Proof
end

section
/-! PROOFS. The statements of 70_reset_and_hazards.md: reset from any state (R106), the stale duty
after a frequency change (R110, R111), and the read right after a command (R113). -/

namespace Sys2Proof.Machine

/-! ### Reset (R106) -/

/-- Reset leaves the block in the reset state of its configuration, from any state. -/
theorem State.applyReset_block (s : State) : s.applyReset.block = State.resetOf s.cfg s.platform :=
  rfl

/-- The step that resets while a transaction is under way resets the block, takes the event off the
port, and delivers the response that performing the transaction gives, or loses it. -/
theorem step_resetDuring_next {s : State} {w : TransactionWord} {rest : List HostEvent}
    (hp : s.port = .resetDuring w :: rest) :
    ∃ t u, step s = .next t ∧ exec (decode w) { s with port := rest } = .next u ∧
      t.block = s.applyReset.block ∧ t.port = rest ∧
      (t.responses = s.responses ∨ t.responses = u.responses) := by
  obtain ⟨u, performed⟩ := exec_total (decode w) { s with port := rest }
  have next := step_resetDuring s w rest hp
  rw [performed, applyResetDuring_next] at next
  refine ⟨_, u, next, performed, rfl, rfl, ?_⟩
  cases Config.responseSurvivesReset s.cutOffs with
  | false => exact .inl rfl
  | true => exact .inr rfl

/-- Settles O57: reset between transactions and reset during one leave the same block. -/
theorem resetFromAnyState : Obligations.ResetFromAnyState :=
  ⟨fun s rest hp => ⟨_, step_assertReset s rest hp, s.applyReset_block, rfl, rfl⟩,
    fun _ _ _ hp => step_resetDuring_next hp⟩

/-! ### A stale duty (R110, R111) -/

/-- Settles O58: the frequency command leaves `DUTY` as it is and sets `INIT`, so that the percentage
is accepted; the duty is then computed from the new period. -/
theorem staleDutyUntilReissued : Obligations.StaleDutyUntilReissued := by
  intro s F pct hF
  refine ⟨_, exec_wrFreqCmd_of_inRange hF, s.toNat_ofNat_periodOf hF, rfl, rfl, fun hp => ?_⟩
  exact ⟨_, exec_wrPctCmd_of_valid rfl hp, rfl, State.toNat_ofNat_dutyOf _ hp, rfl⟩

/-- A run that starts with a write to a register performs it and goes on with the rest of the port. -/
theorem run_write {r : Reg} {data : Word} {s t : State} (k : Nat) (rest : List HostEvent)
    (h : exec (decodeWrite data r) s = .next t) :
    Sys2Proof.core.run (k + 1)
        { s with port := .transaction (packWord .write r.offset data) :: rest } =
      Sys2Proof.core.run k { t with port := rest } := by
  apply run_succ
  rw [step_transaction _ _ rest rfl, decode_write_offset]
  exact exec_with_port (s := s) rest h

/-- The duty of a first frequency stays when a second frequency follows: `PERIOD` is then the second
frequency's, `DUTY` still the one computed from the first period (70_reset_and_hazards.md R111). -/
theorem run_frequency_percentage_frequency {s : State} {F G pct : Word}
    (hF : s.cfg.inRange F.toNat) (hG : s.cfg.inRange G.toNat) (hp : pct.toNat ≤ 100) :
    ∃ t, Sys2Proof.core.run 3 { s with
        port := [.transaction (packWord .write (Reg.offset .freqCmd) F),
          .transaction (packWord .write (Reg.offset .pctCmd) pct),
          .transaction (packWord .write (Reg.offset .freqCmd) G)] } = .next t ∧
      t.period.toNat = s.cfg.periodOf G.toNat ∧
      t.duty.toNat = dutyOf pct.toNat (s.cfg.periodOf F.toNat) ∧ t.dutyCur = false := by
  obtain ⟨t, first, period, -, -, reissue⟩ := staleDutyUntilReissued s F pct hF
  obtain ⟨u, second, -, duty, -⟩ := reissue hp
  have cfg : u.cfg = s.cfg := (exec_cfg second).trans (exec_cfg first)
  obtain ⟨v, third, newPeriod, oldDuty, stale, -⟩ := staleDutyUntilReissued u G pct (by rwa [cfg])
  refine ⟨{ v with port := [] }, ?_, ?_, ?_, stale⟩
  · exact (run_write (r := .freqCmd) 2 _ first).trans <|
      (run_write (r := .pctCmd) 1 _ second).trans (run_write (r := .freqCmd) 0 _ third)
  · rw [newPeriod, cfg]
  · rw [oldDuty, duty, period]

/-- Settles O59: 1,046.5 Hz, 100 % and 2,500 Hz, in the default configuration. -/
theorem staleDutyCanBeOutOfScale : Obligations.StaleDutyCanBeOutOfScale := by
  obtain ⟨t, run, period, duty, stale⟩ := run_frequency_percentage_frequency (s := State.reset)
    (F := 104650#32) (G := 250000#32) (pct := 100#32) (by decide) (by decide) (by decide)
  have newPeriod : t.period.toNat = 62 := period
  exact ⟨t, run, newPeriod, duty, stale, by rw [newPeriod]⟩

/-! ### The read after a command (R113) -/

/-- A read instruction answers `OKAY` with a word of its register's value. -/
theorem exec_read_answers {i : Instr} {r : Reg} (h : i.readTarget = some r) {s : State} {n : Nat}
    (value : (s.readReg r).toNat = n) :
    ∃ u v, exec i s = .next u ∧ u.lastResponse = some ⟨.okay, v⟩ ∧ v.toNat = n :=
  ⟨_, _, exec_read_eq h s, rfl, value⟩

/-- Settles O60: the command's value fits its register, and the register reads as its value. -/
theorem nextReadSeesTheCommand : Obligations.NextReadSeesTheCommand := by
  refine fun s t F pct data => ⟨fun hF h => ?_, fun hi hp h => ?_⟩
  · cases (exec_wrFreqCmd_of_inRange hF).symm.trans h
    exact exec_read_answers (r := .period) rfl
      ((State.readReg_period_toNat _).trans (s.toNat_ofNat_periodOf hF))
  · cases (exec_wrPctCmd_of_valid hi hp).symm.trans h
    exact exec_read_answers (r := .duty) rfl
      ((State.readReg_duty_toNat _).trans (s.toNat_ofNat_dutyOf hp))

end Sys2Proof.Machine
end
